-- ==== Sys2Proof/Word.lean ====
section
/-! DEFINITION. The widths of `00_scope.md` R6 and the words that have them (R9: bit 0 is the least
significant bit of every value, all values are unsigned). -/

namespace Sys2Proof

/-- `SYM_W` (R6): bits per symbol code. -/
def SYM_W : Nat := 2
/-- `SLOTS` (R6): symbol slots per record. -/
def SLOTS : Nat := 8
/-- `REC_BYTES` (R6): bytes per record. -/
def REC_BYTES : Nat := 2
/-- `CHAR_W` (R6): bits per character code. -/
def CHAR_W : Nat := 8
/-- `IDX_W` (R6): width of the scan index. -/
def IDX_W : Nat := 6
/-- `UNIT_W` (R6): width of the register `UNIT`. -/
def UNIT_W : Nat := 16
/-- `CNT_W` (R6): width of the duration counter and of `ev_ticks`. -/
def CNT_W : Nat := 19
/-- `REG_W` (R6): width of the register data path. -/
def REG_W : Nat := 16
/-- `REG_AW` (R6): width of the register address. -/
def REG_AW : Nat := 2

/-- A ROM entry or a character code (R6 `CHAR_W`). -/
abbrev Byte := BitVec 8
/-- A packed record (`30_encoding.md` R81) or a register value (R6 `REG_W`). -/
abbrev Word16 := BitVec 16
/-- A duration in ticks (R6 `CNT_W`). -/
abbrev Ticks := BitVec 19
/-- A duration in units as the port `ev_units` carries it (`30_encoding.md` R88). -/
abbrev Units := BitVec 3
/-- A 2-bit symbol code (`30_encoding.md` R80). -/
abbrev SymCode := BitVec 2
/-- A register number (`30_encoding.md` R86, R87). -/
abbrev RegAddr := BitVec 2
/-- A scan index (`10_state.md` R23). -/
abbrev Idx := BitVec 6
/-- A slot count (`10_state.md` R25). -/
abbrev Slot := BitVec 4

/-- A 1-bit field of a register or code word. -/
abbrev bit (b : Bool) : BitVec 1 := BitVec.ofBool b

end Sys2Proof
end

