-- ==== Sys2Proof/Machine/Memory.lean ====
section
/-! DEFINITION. The read-only memories of `20_memory.md`: a ROM is a list of (address, byte) cells in
one canonical form. There is no write: "`MemWrite` never occurs" (R61). An unlisted address does not
exist (R66) and reads as nothing. -/

namespace Sys2Proof.Machine

/-- The contents of one ROM: addresses strictly rising (`Memory.wf`). -/
abbrev Memory := List Host.Cell

/-- MemRead of one entry (`00_scope.md` R10); `none` at an address that does not exist (R66). -/
def Memory.read : Memory → Nat → Option Byte
  | [], _ => none
  | (b, v) :: rest, a => if a = b then some v else Memory.read rest a

/-- The canonical form: addresses strictly rising. No value is excluded, since an unlisted address
does not read as any byte. -/
def Memory.wf : Memory → Bool
  | [] => true
  | [_] => true
  | (a, _) :: (b, v) :: rest => decide (a < b) && Memory.wf ((b, v) :: rest)

/-- The cells that hold `bs` at consecutive addresses from `base` on. -/
def Memory.ofBytes (base : Nat) : List Byte → Memory
  | [] => []
  | v :: rest => (base, v) :: Memory.ofBytes (base + 1) rest

/-- The addresses that exist. -/
def Memory.addresses (m : Memory) : List Nat := m.map Prod.fst

end Sys2Proof.Machine
end

