-- ==== Sys2Proof/Config.lean ====
section
/-! DEFINITION. The configuration record of `00_scope.md` R6, the input ports of `44_host_ops.md`
R200, and the one free value of the model: what the host drives in a cycle that is not listed. -/

namespace Sys2Proof

/-- The parameters of `00_scope.md` R6 that are not widths (the widths are in Word.lean). -/
structure Config where
  /-- `N_CHARS`: entries of the character table, sentinel excluded. -/
  nChars : Nat
  /-- `SENTINEL`: the character-table terminator. -/
  sentinel : Byte
  /-- `CHAR_ROM`: one byte per index (`20_memory.md` R62). -/
  charRom : Machine.Memory
  /-- `REC_ROM`: two bytes per record (`20_memory.md` R63). -/
  recRom : Machine.Memory
  /-- `RESET_UNIT`: reset value of `UNIT`. -/
  resetUnit : Word16
  /-- `RESET_LENIENT`: reset value of `CTRL.LENIENT`. -/
  resetLenient : Bool
  /-- `WB_ABSORB`: 1 suppresses the gap events next to a WORD_BREAK event (`43_timing.md` R175). -/
  wbAbsorb : Bool
  deriving DecidableEq, Repr, Inhabited

/-- The values of the input ports in one cycle (`44_host_ops.md` R200). `clk` is not a field: one
record is one rising edge. -/
structure Inputs where
  /-- `rst`: synchronous reset (`70_reset_and_hazards.md` R300). -/
  rst : Bool
  /-- `tick`: time-base enable (`43_timing.md` R187). -/
  tick : Bool
  /-- `in_valid`: the host offers a character. -/
  inValid : Bool
  /-- `in_char`: the character code offered. -/
  inChar : Byte
  /-- `in_last`: the character offered is the last of its message. -/
  inLast : Bool
  /-- `reg_we`: the host writes a register. -/
  regWe : Bool
  /-- `reg_addr`: register number, for the write and for the read. -/
  regAddr : RegAddr
  /-- `reg_wdata`: data to write. -/
  regWdata : Word16
  deriving DecidableEq, Repr, Inhabited

/-- The values of the output ports in one cycle (`44_host_ops.md` R200). -/
structure Outputs where
  /-- `in_ready` -/
  inReady : Bool
  /-- `key` -/
  key : Bool
  /-- `ev_valid` -/
  evValid : Bool
  /-- `ev_on` -/
  evOn : Bool
  /-- `ev_units` -/
  evUnits : Units
  /-- `ev_ticks` -/
  evTicks : Ticks
  /-- `done` -/
  done : Bool
  /-- `done_err` -/
  doneErr : Bool
  /-- `reg_rdata` -/
  regRdata : Word16
  deriving DecidableEq, Repr, Inhabited

/-- FREE VALUE (log entry 1): what the host drives in the cycle numbered `n` when the state lists no
inputs for that cycle. The host is not constrained (`00_scope.md` R8), so nothing is known of it. -/
opaque Config.hostInputs : Nat → Inputs

/-- No operation on any port: no reset, no tick, nothing offered, nothing written. -/
def Inputs.quiet : Inputs :=
  { rst := false, tick := false, inValid := false, inChar := 0#8, inLast := false,
    regWe := false, regAddr := 0#2, regWdata := 0#16 }

end Sys2Proof
end

