-- ==== Sys2Proof/Syntax.lean ====
section
/-! DEFINITION. The code words MORSE-ENC interprets and the operations on its ports, one constructor
per row of `opcode_table.json` (`30_encoding.md` R97), and the five word formats (R80, R83, R85 to
R87). -/

namespace Sys2Proof

/-- The symbol alphabet (`40_record_codec.md` R110). -/
inductive Symbol where
  /-- code 0: ends a record's symbols -/
  | terminator
  /-- code 1 -/
  | dot
  /-- code 2 -/
  | dash
  /-- code 3 -/
  | wordBreak
  deriving DecidableEq, Repr, Inhabited

/-- A code word with the format its place in the hardware gives it. -/
inductive CodeWord where
  /-- `SYM2` (R80): stands at `sr[15:14]`. -/
  | sym2 (code : SymCode)
  /-- `CHAR8` (R83): stands in the holding register, and normalised in `cur_char`. -/
  | char8 (code : Byte)
  /-- `CHARIN9` (R85): `in_last ++ in_char` on the input port. -/
  | charin9 (w : BitVec 9)
  /-- `REGW18` (R86): `reg_addr ++ reg_wdata` on the register port. -/
  | regw18 (w : BitVec 18)
  /-- `REGR2` (R87): `reg_addr` on the register port. -/
  | regr2 (addr : RegAddr)
  deriving DecidableEq, Repr, Inhabited

/-- The name of a word format. -/
inductive Format where
  /-- 2 bits (R80) -/
  | sym2
  /-- 8 bits (R83) -/
  | char8
  /-- 9 bits (R85) -/
  | charin9
  /-- 18 bits (R86) -/
  | regw18
  /-- 2 bits (R87) -/
  | regr2
  deriving DecidableEq, Repr, Inhabited

/-- The number of bits of a format's words. -/
def Format.width : Format → Nat
  | .sym2 => 2
  | .char8 => 8
  | .charin9 => 9
  | .regw18 => 18
  | .regr2 => 2

/-- The format of a code word. -/
def CodeWord.format : CodeWord → Format
  | .sym2 _ => .sym2
  | .char8 _ => .char8
  | .charin9 _ => .charin9
  | .regw18 _ => .regw18
  | .regr2 _ => .regr2

/-- The instructions: one constructor per row of the opcode table. A letter's `lower` is bit 5 of its
code, which the row's mask 0xDF leaves free (R83). -/
inductive Instr where
  /-- SYM2 code 0 (`40_record_codec.md` R112) -/
  | terminator
  /-- SYM2 code 1 (R113) -/
  | dot
  /-- SYM2 code 2 (R114) -/
  | dash
  /-- SYM2 code 3 (R115) -/
  | wordBreak
  /-- `0` (`46_char_table.md` R400) -/
  | char0
  /-- `1` (`46_char_table.md` R401) -/
  | char1
  /-- `2` (`46_char_table.md` R402) -/
  | char2
  /-- `3` (`46_char_table.md` R403) -/
  | char3
  /-- `4` (`46_char_table.md` R404) -/
  | char4
  /-- `5` (`46_char_table.md` R405) -/
  | char5
  /-- `6` (`46_char_table.md` R406) -/
  | char6
  /-- `7` (`46_char_table.md` R407) -/
  | char7
  /-- `8` (`46_char_table.md` R408) -/
  | char8
  /-- `9` (`46_char_table.md` R409) -/
  | char9
  /-- `A` (`46_char_table.md` R410) -/
  | charA (lower : Bool)
  /-- `B` (`46_char_table.md` R411) -/
  | charB (lower : Bool)
  /-- `C` (`46_char_table.md` R412) -/
  | charC (lower : Bool)
  /-- `D` (`46_char_table.md` R413) -/
  | charD (lower : Bool)
  /-- `E` (`46_char_table.md` R414) -/
  | charE (lower : Bool)
  /-- `F` (`46_char_table.md` R415) -/
  | charF (lower : Bool)
  /-- `G` (`46_char_table.md` R416) -/
  | charG (lower : Bool)
  /-- `H` (`46_char_table.md` R417) -/
  | charH (lower : Bool)
  /-- `I` (`46_char_table.md` R418) -/
  | charI (lower : Bool)
  /-- `J` (`46_char_table.md` R419) -/
  | charJ (lower : Bool)
  /-- `K` (`46_char_table.md` R420) -/
  | charK (lower : Bool)
  /-- `L` (`46_char_table.md` R421) -/
  | charL (lower : Bool)
  /-- `M` (`46_char_table.md` R422) -/
  | charM (lower : Bool)
  /-- `N` (`46_char_table.md` R423) -/
  | charN (lower : Bool)
  /-- `O` (`46_char_table.md` R424) -/
  | charO (lower : Bool)
  /-- `P` (`46_char_table.md` R425) -/
  | charP (lower : Bool)
  /-- `Q` (`46_char_table.md` R426) -/
  | charQ (lower : Bool)
  /-- `R` (`46_char_table.md` R427) -/
  | charR (lower : Bool)
  /-- `S` (`46_char_table.md` R428) -/
  | charS (lower : Bool)
  /-- `T` (`46_char_table.md` R429) -/
  | charT (lower : Bool)
  /-- `U` (`46_char_table.md` R430) -/
  | charU (lower : Bool)
  /-- `V` (`46_char_table.md` R431) -/
  | charV (lower : Bool)
  /-- `W` (`46_char_table.md` R432) -/
  | charW (lower : Bool)
  /-- `X` (`46_char_table.md` R433) -/
  | charX (lower : Bool)
  /-- `Y` (`46_char_table.md` R434) -/
  | charY (lower : Bool)
  /-- `Z` (`46_char_table.md` R435) -/
  | charZ (lower : Bool)
  /-- `.` (`46_char_table.md` R436) -/
  | charPeriod
  /-- `/` (`46_char_table.md` R437) -/
  | charSlash
  /-- `?` (`46_char_table.md` R438) -/
  | charQuestion
  /-- space (`46_char_table.md` R439) -/
  | charSpace
  /-- the sentinel value as a character code (R440): an UnknownCharacter (R134) -/
  | sentinel
  /-- PUTC, with `last` PUTC.L (`44_host_ops.md` R204) -/
  | putc (last : Bool) (c : Byte)
  /-- WR UNIT, v (R209) -/
  | wrUnit (v : Word16)
  /-- WR CTRL, v (R210), ABORT when `v[1] = 1` (R211) -/
  | wrCtrl (v : Word16)
  /-- WR STATUS, v (R212) -/
  | wrStatus (v : Word16)
  /-- WR LOOKUP, v (R213) -/
  | wrLookup (v : Word16)
  /-- RD UNIT (R215) -/
  | rdUnit
  /-- RD CTRL (R216) -/
  | rdCtrl
  /-- RD STATUS (R217) -/
  | rdStatus
  /-- RD LOOKUP (R218) -/
  | rdLookup
  deriving DecidableEq, Repr

/-- The format of an instruction's word, by the table's column `format`. -/
def Instr.format : Instr → Format
  | .terminator | .dot | .dash | .wordBreak => .sym2
  | .char0 | .char1 | .char2 | .char3 | .char4 | .char5 | .char6 | .char7 | .char8 | .char9
  | .charA _ | .charB _ | .charC _ | .charD _ | .charE _ | .charF _ | .charG _ | .charH _ | .charI _ | .charJ _ | .charK _ | .charL _ | .charM _
  | .charN _ | .charO _ | .charP _ | .charQ _ | .charR _ | .charS _ | .charT _ | .charU _ | .charV _ | .charW _ | .charX _ | .charY _ | .charZ _
  | .charPeriod | .charSlash | .charQuestion | .charSpace | .sentinel => .char8
  | .putc _ _ => .charin9
  | .wrUnit _ | .wrCtrl _ | .wrStatus _ | .wrLookup _ => .regw18
  | .rdUnit | .rdCtrl | .rdStatus | .rdLookup => .regr2

end Sys2Proof
end

