-- ==== Sys2Proof/Decode.lean ====
section
/-! DEFINITION. Decoding of the five word formats of `30_encoding.md` (R80, R83, R85 to R87, R97),
total, rejecting by name, and the encoder. The format of a word is not in its bits: the place it
stands at gives it. -/

namespace Sys2Proof

/-- Why a word is no instruction. -/
inductive DecodeError where
  /-- `30_encoding.md` R91: a `CHAR8` code that matches no row is an UnknownCharacter. -/
  | unknownCharacter (code : Byte)
  /-- The number does not fit the format's width. -/
  | wordTooWide (width : Nat)
  deriving DecidableEq, Repr, Inhabited

/-- The symbol of a code (R80). -/
def Symbol.ofCode (c : SymCode) : Symbol :=
  if c = 0#2 then .terminator else if c = 1#2 then .dot else if c = 2#2 then .dash else .wordBreak

/-- The code of a symbol (R80). -/
def Symbol.code : Symbol → SymCode
  | .terminator => 0#2
  | .dot => 1#2
  | .dash => 2#2
  | .wordBreak => 3#2

/-- The instruction of a symbol code (R80, R112 to R115). -/
def decodeSymbol (c : SymCode) : Instr :=
  match Symbol.ofCode c with
  | .terminator => .terminator
  | .dot => .dot
  | .dash => .dash
  | .wordBreak => .wordBreak

/-- One `CHAR8` row of the opcode table: a code matches when `(c & mask) == pattern` (R83, R97). -/
structure CharRow where
  /-- the bits that count -/
  mask : Byte
  /-- their values -/
  pattern : Byte
  /-- the instruction, given bit 5 of the code -/
  make : Bool → Instr

/-- The row of a character that matches its own code only (R83). -/
def CharRow.exact (code : Byte) (i : Instr) : CharRow := ⟨0xFF#8, code, fun _ => i⟩

/-- The row of a letter: bit 5 is free, so the lowercase code matches too (R83). -/
def CharRow.letter (upper : Byte) (i : Bool → Instr) : CharRow := ⟨0xDF#8, upper, i⟩

/-- The rows of the digits (R400 to R409). -/
def digitRows : List CharRow :=
  [.exact 0x30#8 .char0,
   .exact 0x31#8 .char1,
   .exact 0x32#8 .char2,
   .exact 0x33#8 .char3,
   .exact 0x34#8 .char4,
   .exact 0x35#8 .char5,
   .exact 0x36#8 .char6,
   .exact 0x37#8 .char7,
   .exact 0x38#8 .char8,
   .exact 0x39#8 .char9]

/-- The rows of the letters (R410 to R435). -/
def letterRows : List CharRow :=
  [.letter 0x41#8 .charA,
   .letter 0x42#8 .charB,
   .letter 0x43#8 .charC,
   .letter 0x44#8 .charD,
   .letter 0x45#8 .charE,
   .letter 0x46#8 .charF,
   .letter 0x47#8 .charG,
   .letter 0x48#8 .charH,
   .letter 0x49#8 .charI,
   .letter 0x4A#8 .charJ,
   .letter 0x4B#8 .charK,
   .letter 0x4C#8 .charL,
   .letter 0x4D#8 .charM,
   .letter 0x4E#8 .charN,
   .letter 0x4F#8 .charO,
   .letter 0x50#8 .charP,
   .letter 0x51#8 .charQ,
   .letter 0x52#8 .charR,
   .letter 0x53#8 .charS,
   .letter 0x54#8 .charT,
   .letter 0x55#8 .charU,
   .letter 0x56#8 .charV,
   .letter 0x57#8 .charW,
   .letter 0x58#8 .charX,
   .letter 0x59#8 .charY,
   .letter 0x5A#8 .charZ]

/-- The rows of the punctuation, the space and the sentinel value (R436 to R440). -/
def otherRows : List CharRow :=
  [.exact 0x2E#8 .charPeriod,
   .exact 0x2F#8 .charSlash,
   .exact 0x3F#8 .charQuestion,
   .exact 0x20#8 .charSpace,
   .exact 0x00#8 .sentinel]

/-- All `CHAR8` rows of the opcode table. -/
def charRows : List CharRow := digitRows ++ letterRows ++ otherRows

/-- The rows that a character code matches decide its instruction; no row: UnknownCharacter (R91). -/
def decodeChar (c : Byte) : Except DecodeError Instr :=
  match charRows.find? (fun r => (c &&& r.mask) == r.pattern) with
  | some r => .ok (r.make (c.getLsbD 5))
  | none => .error (.unknownCharacter c)

/-- The register write of `reg_addr ++ reg_wdata` (R86). -/
def decodeRegWrite (w : BitVec 18) : Instr :=
  let a : RegAddr := w.extractLsb' 16 2
  let v : Word16 := w.extractLsb' 0 16
  if a = 0#2 then .wrUnit v else if a = 1#2 then .wrCtrl v else if a = 2#2 then .wrStatus v else .wrLookup v

/-- The register read of `reg_addr` (R87). -/
def decodeRegRead (a : RegAddr) : Instr :=
  if a = 0#2 then .rdUnit else if a = 1#2 then .rdCtrl else if a = 2#2 then .rdStatus else .rdLookup

/-- The decoder: a code word to its instruction (R97). -/
def decode : CodeWord → Except DecodeError Instr
  | .sym2 c => .ok (decodeSymbol c)
  | .char8 c => decodeChar c
  | .charin9 w => .ok (.putc (w.getLsbD 8) (w.extractLsb' 0 8))
  | .regw18 w => .ok (decodeRegWrite w)
  | .regr2 a => .ok (decodeRegRead a)

/-- The code word of a format whose bits are the number `w`. -/
def CodeWord.ofNat : Format → Nat → CodeWord
  | .sym2, w => .sym2 (BitVec.ofNat 2 w)
  | .char8, w => .char8 (BitVec.ofNat 8 w)
  | .charin9, w => .charin9 (BitVec.ofNat 9 w)
  | .regw18, w => .regw18 (BitVec.ofNat 18 w)
  | .regr2, w => .regr2 (BitVec.ofNat 2 w)

/-- Decoding of any number as a word of a format; one that does not fit is rejected by name. -/
def decodeBits (f : Format) (w : Nat) : Except DecodeError Instr :=
  if w < 2 ^ f.width then decode (CodeWord.ofNat f w) else .error (.wordTooWide f.width)

/-- A letter's code: bit 5 set for the lowercase letter (R83). -/
def letterCode (upper : Byte) (lower : Bool) : Byte := if lower then upper ||| 0x20#8 else upper

/-- `reg_addr ++ reg_wdata` (R86). -/
def regWriteWord (a : RegAddr) (v : Word16) : CodeWord := .regw18 (a ++ v)

/-- The encoder: the code word of an instruction, from the encodings of `30_encoding.md`. -/
def encode : Instr → CodeWord
  | .terminator => .sym2 0#2
  | .dot => .sym2 1#2
  | .dash => .sym2 2#2
  | .wordBreak => .sym2 3#2
  | .char0 => .char8 0x30#8
  | .char1 => .char8 0x31#8
  | .char2 => .char8 0x32#8
  | .char3 => .char8 0x33#8
  | .char4 => .char8 0x34#8
  | .char5 => .char8 0x35#8
  | .char6 => .char8 0x36#8
  | .char7 => .char8 0x37#8
  | .char8 => .char8 0x38#8
  | .char9 => .char8 0x39#8
  | .charA lower => .char8 (letterCode 0x41#8 lower)
  | .charB lower => .char8 (letterCode 0x42#8 lower)
  | .charC lower => .char8 (letterCode 0x43#8 lower)
  | .charD lower => .char8 (letterCode 0x44#8 lower)
  | .charE lower => .char8 (letterCode 0x45#8 lower)
  | .charF lower => .char8 (letterCode 0x46#8 lower)
  | .charG lower => .char8 (letterCode 0x47#8 lower)
  | .charH lower => .char8 (letterCode 0x48#8 lower)
  | .charI lower => .char8 (letterCode 0x49#8 lower)
  | .charJ lower => .char8 (letterCode 0x4A#8 lower)
  | .charK lower => .char8 (letterCode 0x4B#8 lower)
  | .charL lower => .char8 (letterCode 0x4C#8 lower)
  | .charM lower => .char8 (letterCode 0x4D#8 lower)
  | .charN lower => .char8 (letterCode 0x4E#8 lower)
  | .charO lower => .char8 (letterCode 0x4F#8 lower)
  | .charP lower => .char8 (letterCode 0x50#8 lower)
  | .charQ lower => .char8 (letterCode 0x51#8 lower)
  | .charR lower => .char8 (letterCode 0x52#8 lower)
  | .charS lower => .char8 (letterCode 0x53#8 lower)
  | .charT lower => .char8 (letterCode 0x54#8 lower)
  | .charU lower => .char8 (letterCode 0x55#8 lower)
  | .charV lower => .char8 (letterCode 0x56#8 lower)
  | .charW lower => .char8 (letterCode 0x57#8 lower)
  | .charX lower => .char8 (letterCode 0x58#8 lower)
  | .charY lower => .char8 (letterCode 0x59#8 lower)
  | .charZ lower => .char8 (letterCode 0x5A#8 lower)
  | .charPeriod => .char8 0x2E#8
  | .charSlash => .char8 0x2F#8
  | .charQuestion => .char8 0x3F#8
  | .charSpace => .char8 0x20#8
  | .sentinel => .char8 0x00#8
  | .putc last c => .charin9 (bit last ++ c)
  | .wrUnit v => regWriteWord 0#2 v
  | .wrCtrl v => regWriteWord 1#2 v
  | .wrStatus v => regWriteWord 2#2 v
  | .wrLookup v => regWriteWord 3#2 v
  | .rdUnit => .regr2 0#2
  | .rdCtrl => .regr2 1#2
  | .rdStatus => .regr2 2#2
  | .rdLookup => .regr2 3#2

/-- The instruction of an 8-bit table word. Three formats have table rows of one byte (`SYM2`,
`CHAR8`, `REGR2`) and the table word does not say which is meant: DESIGN CHOICE, log entry 3. A
character row's code is that character; the number 0 and the other numbers below 16 are symbol codes
in their low two bits, the mask of the `SYM2` rows. -/
def decodeTableByte (w : Nat) : Option Instr :=
  match decodeBits .char8 w with
  | .ok .sentinel => some .terminator
  | .ok i => some i
  | .error _ => if w < 16 then (decodeBits .sym2 (w % 4)).toOption else none

/-- The instruction the decoder reads from a word of the opcode table that is `nbits` wide. -/
def decodeTableWord (nbits w : Nat) : Option Instr :=
  if nbits = 2 then (decodeBits .sym2 w).toOption
  else if nbits = 8 then decodeTableByte w
  else if nbits = 9 ∨ nbits = 16 then (decodeBits .charin9 w).toOption
  else if nbits = 18 ∨ nbits = 24 then (decodeBits .regw18 w).toOption
  else none

end Sys2Proof
end

