-- ==== Sys2Proof/Machine/Tables.lean ====
section
/-! DEFINITION. The spec's own tables (`46_char_table.md` R400 to R440), its configuration
(`00_scope.md` R6), and the two halves of R7: what reset checks and what a model must refuse. -/

namespace Sys2Proof.Machine

/-- The bytes of `CHAR_ROM` in index order (R400 to R440), the sentinel last. -/
def charBytes : List Byte :=
  [0x30#8, 0x31#8, 0x32#8, 0x33#8, 0x34#8, 0x35#8, 0x36#8, 0x37#8, 0x38#8, 0x39#8,
   0x41#8, 0x42#8, 0x43#8, 0x44#8, 0x45#8, 0x46#8, 0x47#8, 0x48#8, 0x49#8, 0x4A#8,
   0x4B#8, 0x4C#8, 0x4D#8, 0x4E#8, 0x4F#8, 0x50#8, 0x51#8, 0x52#8, 0x53#8, 0x54#8,
   0x55#8, 0x56#8, 0x57#8, 0x58#8, 0x59#8, 0x5A#8, 0x2E#8, 0x2F#8, 0x3F#8, 0x20#8,
   0x00#8]

/-- The bytes of `REC_ROM` in address order (R400 to R439): record `i` at `2*i` and `2*i+1`. -/
def recBytes : List Byte :=
  [0xAA#8, 0x80#8, 0x6A#8, 0x80#8, 0x5A#8, 0x80#8, 0x56#8, 0x80#8, 0x55#8, 0x80#8,
   0x55#8, 0x40#8, 0x95#8, 0x40#8, 0xA5#8, 0x40#8, 0xA9#8, 0x40#8, 0xAA#8, 0x40#8,
   0x60#8, 0x00#8, 0x95#8, 0x00#8, 0x99#8, 0x00#8, 0x94#8, 0x00#8, 0x40#8, 0x00#8,
   0x59#8, 0x00#8, 0xA4#8, 0x00#8, 0x55#8, 0x00#8, 0x50#8, 0x00#8, 0x6A#8, 0x00#8,
   0x98#8, 0x00#8, 0x65#8, 0x00#8, 0xA0#8, 0x00#8, 0x90#8, 0x00#8, 0xA8#8, 0x00#8,
   0x69#8, 0x00#8, 0xA6#8, 0x00#8, 0x64#8, 0x00#8, 0x54#8, 0x00#8, 0x80#8, 0x00#8,
   0x58#8, 0x00#8, 0x56#8, 0x00#8, 0x68#8, 0x00#8, 0x96#8, 0x00#8, 0x9A#8, 0x00#8,
   0xA5#8, 0x00#8, 0x66#8, 0x60#8, 0x96#8, 0x40#8, 0x5A#8, 0x50#8, 0xC0#8, 0x00#8]

/-- The configuration the spec gives (R6). -/
def specConfig : Config :=
  { nChars := 40, sentinel := 0x00#8, charRom := Memory.ofBytes 0 charBytes,
    recRom := Memory.ofBytes 0 recBytes, resetUnit := 0x0001#16, resetLenient := false,
    wbAbsorb := false }

/-- `TableAligned(cfg)` (R7 (a)): exactly `N_CHARS+1` character entries, the last and no other the
sentinel, and exactly `2*N_CHARS` record bytes. Reset computes `fatal` from it. -/
def tableAligned (cfg : Config) : Bool :=
  decide (cfg.charRom.addresses = List.range (cfg.nChars + 1))
    && decide (cfg.charRom.read cfg.nChars = some cfg.sentinel)
    && (List.range cfg.nChars).all (fun i => decide (cfg.charRom.read i ≠ some cfg.sentinel))
    && decide (cfg.recRom.addresses = List.range (2 * cfg.nChars))

/-- R7 (b) and (c): a configuration that violates either is outside the spec and is refused. -/
def supported (cfg : Config) : Bool :=
  decide (cfg.nChars + 1 ≤ 2 ^ IDX_W) && decide (UNIT_W + 3 ≤ CNT_W)

end Sys2Proof.Machine
end

