-- ==== Sys2Proof/Machine/State.lean ====
section
/-! DEFINITION. The state of the machine: the record `S` of `10_state.md` (R21 to R37, R40 to R43),
with the configuration and the port values that the spec's `Step(cfg, S, I) -> (S', O)` takes and
gives beside it (`45_cycle_fsm.md` R231). Reset values: R48. -/

namespace Sys2Proof.Machine

/-- The control state (`45_cycle_fsm.md` R230). -/
inductive Fsm where
  /-- `IDLE`: waiting for a character in the holding register -/
  | idle
  /-- `SCAN`: searching `CHAR_ROM`, one entry per cycle -/
  | scan
  /-- `UNPACK`: examining `sr[15:14]` and `slot` -/
  | unpack
  /-- `T_GAP`: timing a gap event -/
  | tGap
  /-- `T_SYM`: timing a symbol event -/
  | tSym
  /-- `DONE`: signalling the end of a message -/
  | done
  deriving DecidableEq, Repr, Inhabited

/-- Why the machine stops. None of these can happen in a state that meets `10_state.md` R47. -/
inductive Fault where
  /-- Raised by a `SCAN` cycle whose `idx` is an index of `CHAR_ROM` that does not exist (`20_memory.md`
  R66, R67). Safe: the model stops, the spec lets a model read anything or refuse. -/
  | charRomIndex
  /-- Raised by a `SCAN` match at an `idx` whose record bytes do not exist in `REC_ROM` (R66, R67).
  Safe, for the same reason. -/
  | recRomAddress
  deriving DecidableEq, Repr, Inhabited

/-- Why the model gives no next state. -/
inductive Refusal where
  /-- An instruction that has no meaning yet. No arm of `exec` answers it: every instruction has its
  meaning. Safe. -/
  | notModelled (mnemonic : String)
  /-- Raised by every step under a configuration that violates `00_scope.md` R7 (b) or (c): "outside
  this spec; a model must refuse it". Safe. -/
  | configOutsideSpec
  /-- Raised by a `T_GAP` expiry with a TERMINATOR at `sr[15:14]`, where `SymEvent(TERMINATOR)` is
  asked for, which `43_timing.md` R171 leaves undefined. Unreachable (`10_state.md` R47 (g)). Safe. -/
  | symEventOfTerminator
  deriving DecidableEq, Repr, Inhabited

/-- The machine. The fields from `fsm` to `lkIdx` are the record `S` (R48). -/
structure State where
  /-- the configuration `cfg` (R50): no step changes it -/
  cfg : Config
  /-- `state` (R29) -/
  fsm : Fsm
  /-- `hold_valid` (R21) -/
  holdValid : Bool
  /-- `hold_char` (R21) -/
  holdChar : Byte
  /-- `hold_last` (R21) -/
  holdLast : Bool
  /-- `cur_char` (R22): normalised -/
  curChar : Byte
  /-- `cur_last` (R22) -/
  curLast : Bool
  /-- `idx` (R23) -/
  idx : Idx
  /-- `sr` (R24) -/
  sr : Word16
  /-- `slot` (R25) -/
  slot : Slot
  /-- `cnt` (R26) -/
  cnt : Ticks
  /-- `ev_on` (R27) -/
  evOn : Bool
  /-- `ev_units` (R27) -/
  evUnits : Units
  /-- `ev_ticks` (R27) -/
  evTicks : Ticks
  /-- `ev_stb` (R28) -/
  evStb : Bool
  /-- `first_sym` (R31) -/
  firstSym : Bool
  /-- `have_prev` (R32) -/
  havePrev : Bool
  /-- `prev_wb` (R33) -/
  prevWb : Bool
  /-- `skip` (R34), `STATUS[3]` -/
  skip : Bool
  /-- `err_msg` (R35) -/
  errMsg : Bool
  /-- `unk` (R36), `STATUS[1]` -/
  unk : Bool
  /-- `fatal` (R37), `STATUS[2]` -/
  fatal : Bool
  /-- `UNIT` (R40) -/
  unit : Word16
  /-- `CTRL.LENIENT` (R41) -/
  lenient : Bool
  /-- `LOOKUP.CHAR` (R43) -/
  lkChar : Byte
  /-- `LOOKUP.FOUND` (R43) -/
  lkFound : Bool
  /-- `LOOKUP.IDX` (R43) -/
  lkIdx : Idx
  /-- the input port values of this cycle and the ones after it; MODEL's own (log entry 1) -/
  host : List Inputs
  /-- the number of cycles done; MODEL's own (log entry 1) -/
  now : Nat
  /-- the output port values of the cycle that ended last; MODEL's own (log entry 2) -/
  out : Outputs
  deriving DecidableEq, Repr

/-- `ResetState(cfg)` (R48, `70_reset_and_hazards.md` R300) under the spec's configuration, with no
host inputs listed. -/
def State.reset : State :=
  { cfg := specConfig, fsm := .idle, holdValid := false, holdChar := 0x00#8, holdLast := false,
    curChar := 0x00#8, curLast := false, idx := 0#6, sr := 0x0000#16, slot := 0#4, cnt := 0#19,
    evOn := false, evUnits := 0#3, evTicks := 0#19, evStb := false, firstSym := false,
    havePrev := false, prevWb := false, skip := false, errMsg := false, unk := false,
    fatal := !tableAligned specConfig, unit := specConfig.resetUnit,
    lenient := specConfig.resetLenient, lkChar := 0x00#8, lkFound := false, lkIdx := 0#6,
    host := [], now := 0,
    out := { inReady := true, key := false, evValid := false, evOn := false, evUnits := 0#3,
             evTicks := 0#19, done := false, doneErr := false, regRdata := 0x0001#16 } }

end Sys2Proof.Machine
end

