-- ==== Sys2Proof/Machine/Operands.lean ====
section
/-! DEFINITION. Operand assembly (`30_encoding.md` R90): the symbol code, the record word, the
normalised character, the duration in ticks, the register read values, and the inputs of the cycle. -/

namespace Sys2Proof.Machine

/-- The code of slot `k` of a record word: `w[15-2k : 14-2k]` (R81, R90 (a)). -/
def slotCode (w : Word16) (k : Nat) : SymCode := w.extractLsb' (14 - 2 * k) 2

/-- The symbol under examination, always `sr[15:14]` (`10_state.md` R24, `40_record_codec.md` R121). -/
def headSymbol (sr : Word16) : Symbol := Symbol.ofCode (slotCode sr 0)

/-- `sr` with its two top bits replaced by a symbol's code. -/
def setHead (f : Symbol) (sr : Word16) : Word16 := f.code ++ sr.extractLsb' 0 14

/-- `RecWord(i)` (`20_memory.md` R63): the byte at the lower address is the more significant half. -/
def recWord (cfg : Config) (i : Nat) : Option Word16 :=
  match cfg.recRom.read (2 * i), cfg.recRom.read (2 * i + 1) with
  | some hi, some lo => some (hi ++ lo)
  | _, _ => none

/-- `Normalize(c)` (`41_char_index.md` R130). -/
def normalize (c : Byte) : Byte := if 0x61#8 ≤ c ∧ c ≤ 0x7A#8 then c - 0x20#8 else c

/-- `zext_19(v)`. -/
def zext19 (v : Word16) : Ticks := v.setWidth 19

/-- The ratio multiplexer (`43_timing.md` R180): `UNIT`, `3*UNIT` or `7*UNIT`. -/
def ratioTicks (sel : Units) (unit : Word16) : Ticks :=
  if sel = 1#3 then zext19 unit
  else if sel = 3#3 then (zext19 unit <<< 1) + zext19 unit
  else (zext19 unit <<< 3) - zext19 unit

/-- The inputs of the present cycle: the first listed ones, else a free value (log entry 1). -/
def State.pins (s : State) : Inputs :=
  match s.host with
  | p :: _ => p
  | [] => Config.hostInputs s.now

/-- The word `in_last ++ in_char` on the input port (R85). -/
def charInWord (p : Inputs) : CodeWord := .charin9 (bit p.inLast ++ p.inChar)

/-- The word `reg_addr ++ reg_wdata` on the register port (R86). -/
def regPortWord (p : Inputs) : CodeWord := regWriteWord p.regAddr p.regWdata

end Sys2Proof.Machine
end

