-- ==== Sys2Proof/Machine/Flags.lean ====
section
/-! DEFINITION. The conditions MORSE-ENC computes from its state: comparators, the gap rule, the
status bits, the handshake and the keyed output. The block has no arithmetic condition codes
(`10_state.md` R30). -/

namespace Sys2Proof.Machine

/-- The FSM state encoding for waveforms (`30_encoding.md` R98); nothing reads it. -/
def fsmCode : Fsm → BitVec 3
  | .idle => 0#3
  | .scan => 1#3
  | .unpack => 2#3
  | .tGap => 3#3
  | .tSym => 4#3
  | .done => 5#3

/-- `STATUS.BUSY` (`10_state.md` R42). -/
def busy (s : State) : Bool := decide (s.fsm ≠ .idle) || s.holdValid

/-- `in_ready` (`44_host_ops.md` R202). -/
def inReady (s : State) : Bool := !s.holdValid && !s.fatal

/-- `key` (`43_timing.md` R183). -/
def keyOut (s : State) : Bool := decide (s.fsm = .tSym) && s.evOn && decide (s.cnt ≠ 0#19)

/-- A character is transferred in this cycle (R202). -/
def transfers (s : State) (p : Inputs) : Bool := p.inValid && inReady s

/-- The record is finished: terminator comparator or bound comparator (`40_record_codec.md` R121). -/
def recordFinished (s : State) : Bool :=
  decide (s.slot = 8#4) || decide (headSymbol s.sr = .terminator)

/-- A gap event precedes the symbol `f` (`45_cycle_fsm.md` R235, `43_timing.md` R172, R175). -/
def needGap (wbAbsorb havePrev prevWb : Bool) (f : Symbol) : Bool :=
  havePrev && !(wbAbsorb && (prevWb || decide (f = .wordBreak)))

/-- The units of a gap (`30_encoding.md` R90 (e)): 3 before a character's first symbol, else 1. -/
def gapUnits (firstSym : Bool) : Units := if firstSym then 3#3 else 1#3

/-- The sentinel comparator (`41_char_index.md` R136). -/
def atSentinel (s : State) : Bool :=
  decide (s.cfg.charRom.read s.idx.toNat = some s.cfg.sentinel)

/-- The `SCAN` action of this cycle sets `unk` (`45_cycle_fsm.md` R234, R241). -/
def unkSetNow (s : State) : Bool := decide (s.fsm = .scan) && atSentinel s

/-- The host writes register `a` in this cycle (`44_host_ops.md` R207). -/
def writesReg (p : Inputs) (a : RegAddr) : Bool := p.regWe && decide (p.regAddr = a)

/-- The host writes ABORT in this cycle (R211, `45_cycle_fsm.md` R231 step 5). -/
def aborts (p : Inputs) : Bool := writesReg p 1#2 && p.regWdata.getLsbD 1

end Sys2Proof.Machine
end

