-- ==== Sys2Proof/Machine/Codec.lean ====
section
/-! DEFINITION. The packed record codec of the functional layer (`40_record_codec.md` R111, R118) and
the failure results of the functional layer (`60_exceptions.md` R270, R279). -/

namespace Sys2Proof.Machine

/-- The failure kinds (R270) with the information the rules give each. -/
inductive CodecError where
  /-- R133: the normalised code; R155: in `EncodeText` also the position in the text -/
  | unknownCharacter (code : Byte) (position : Option Nat)
  /-- R118, R272: the offending length -/
  | recordOverflow (length : Nat)
  /-- R273: the tables do not match, so a search has no meaning -/
  | tableAlignment
  deriving DecidableEq, Repr, Inhabited

/-- The symbols of a record word from slot `k` on, at most `n` of them (R111). -/
def unpackSlots (w : Word16) : (n k : Nat) → List Symbol
  | 0, _ => []
  | n + 1, k =>
    match Symbol.ofCode (slotCode w k) with
    | .terminator => []
    | f => f :: unpackSlots w n (k + 1)

/-- `Unpack(w)` (R111): stops at the first TERMINATOR, or after eight slots (R116). -/
def unpack (w : Word16) : List Symbol := unpackSlots w SLOTS 0

/-- `w[15-2k : 14-2k] <- xs[k]` for the symbols of `xs`, from slot `k` on (R118). -/
def packSlots : List Symbol → (k : Nat) → Word16 → Word16
  | [], _, w => w
  | x :: xs, k, w => packSlots xs (k + 1) (w ||| (x.code.setWidth 16 <<< (14 - 2 * k)))

/-- `Pack(xs)` (R118): unused slots stay TERMINATOR, more than eight symbols is RecordOverflow. -/
def pack (xs : List Symbol) : Except CodecError Word16 :=
  if SLOTS < xs.length then .error (.recordOverflow xs.length) else .ok (packSlots xs 0 0x0000#16)

/-- `PACK4(a,b,c,d)` (`30_encoding.md` R96): four symbols in one byte, the first in bits 7:6. -/
def pack4 (a b c d : Symbol) : Byte := a.code ++ b.code ++ c.code ++ d.code

/-- A record is well formed (R124): it has at least one TERMINATOR slot. -/
def recordWellFormed (w : Word16) : Bool :=
  (List.range SLOTS).any (fun k => decide (Symbol.ofCode (slotCode w k) = .terminator))

/-- Every slot from the first TERMINATOR on is `00` (R119: the words that `Pack` makes). -/
def paddedWithTerminators (w : Word16) : Bool :=
  (List.range SLOTS).all (fun k =>
    decide (k < (unpack w).length) || decide (Symbol.ofCode (slotCode w k) = .terminator))

end Sys2Proof.Machine
end

