-- ==== Sys2Proof/Machine/CharIndex.lean ====
section
/-! DEFINITION. The character index of the functional layer (`41_char_index.md` R131, R138).
`Normalize` (R130) is in Operands.lean. -/

namespace Sys2Proof.Machine

/-- The linear scan from index `i` on for the normalised code `n`, over at most `fuel` entries: the
sentinel is tested first (R131, R137). Running out of the table is no search (R141). -/
def indexFrom (cfg : Config) (n : Byte) : (fuel i : Nat) → Except CodecError Nat
  | 0, _ => .error .tableAlignment
  | fuel + 1, i =>
    match cfg.charRom.read i with
    | none => .error .tableAlignment
    | some t =>
      if t = cfg.sentinel then .error (.unknownCharacter n none)
      else if t = n then .ok i
      else indexFrom cfg n fuel (i + 1)

/-- `IndexOf(c)` (R131): the ordinal of the first match, or UnknownCharacter. -/
def indexOf (cfg : Config) (c : Byte) : Except CodecError Nat :=
  indexFrom cfg (normalize c) (cfg.nChars + 1) 0

/-- `Lookup(c)` (R138): the record word at the ordinal of `c`. -/
def lookup (cfg : Config) (c : Byte) : Except CodecError Word16 :=
  match indexOf cfg c with
  | .error e => .error e
  | .ok i =>
    match recWord cfg i with
    | some w => .ok w
    | none => .error .tableAlignment

/-- The character is in the table. -/
def known (cfg : Config) (c : Byte) : Bool :=
  match indexOf cfg c with
  | .ok _ => true
  | .error _ => false

end Sys2Proof.Machine
end

