-- ==== Sys2Proof/Machine/Encoder.lean ====
section
/-! DEFINITION. The encoder of the functional layer: characters and texts to symbols, strict and
lenient (`42_encoder.md` R150 to R159). -/

namespace Sys2Proof.Machine

/-- The policy on an unknown character (R157). -/
inductive Mode where
  /-- the whole text fails (R155) -/
  | strict
  /-- the character is skipped (R156) -/
  | lenient
  deriving DecidableEq, Repr, Inhabited

/-- The mode `CTRL.LENIENT` selects (`10_state.md` R41). -/
def Mode.ofLenient (lenient : Bool) : Mode := if lenient then .lenient else .strict

/-- The symbols of one character (`00_scope.md` R11). -/
abbrev Group := List Symbol

/-- `EncodeChar(c)` (R150). -/
def encodeChar (cfg : Config) (c : Byte) : Except CodecError Group :=
  match lookup cfg c with
  | .error e => .error e
  | .ok w => .ok (unpack w)

/-- `EncodeText` of the characters from position `j` on (R152). -/
def encodeFrom (cfg : Config) (mode : Mode) : List Byte → (j : Nat) → Except CodecError (List Group)
  | [], _ => .ok []
  | c :: rest, j =>
    match encodeChar cfg c with
    | .ok g =>
      match encodeFrom cfg mode rest (j + 1) with
      | .ok gs => .ok (g :: gs)
      | .error e => .error e
    | .error (.unknownCharacter n _) =>
      match mode with
      | .strict => .error (.unknownCharacter n (some j))
      | .lenient => encodeFrom cfg mode rest (j + 1)
    | .error e => .error e

/-- `EncodeText(text, mode)` (R152). -/
def encodeText (cfg : Config) (text : List Byte) (mode : Mode) : Except CodecError (List Group) :=
  encodeFrom cfg mode text 0

/-- `Flatten(groups)` (R159). -/
def flattenGroups (groups : List Group) : List Symbol := groups.flatten

end Sys2Proof.Machine
end

