-- ==== Sys2Proof/Machine/Timing.lean ====
section
/-! DEFINITION. The timing event generator of the functional layer: symbols to timed on/off events
(`43_timing.md` R170 to R179, R188). -/

namespace Sys2Proof.Machine

/-- An event (`00_scope.md` R11): signal on or off, for 1, 3 or 7 units. -/
structure Event where
  /-- the source's "signalOn" -/
  on : Bool
  /-- the duration in units -/
  units : Units
  deriving DecidableEq, Repr, Inhabited

/-- `SymEvent(s)` (R171); undefined for TERMINATOR, which no decoded sequence contains. -/
def symEvent : Symbol → Option Event
  | .terminator => none
  | .dot => some ⟨true, 1#3⟩
  | .dash => some ⟨true, 3#3⟩
  | .wordBreak => some ⟨false, 7#3⟩

/-- The gap event before a symbol (R172): 3 units at a character boundary, else 1. -/
def gapEvent (firstSym : Bool) : Event := ⟨false, gapUnits firstSym⟩

/-- The events of the symbols `g` of one character (R173), and whether a symbol has been emitted and
the last one was a WORD_BREAK after them. `first` says that the next symbol is the character's first. -/
def groupEvents (wbAbsorb : Bool) : Group → (first havePrev prevWb : Bool) → List Event × Bool × Bool
  | [], _, havePrev, prevWb => ([], havePrev, prevWb)
  | f :: rest, first, havePrev, prevWb =>
    let gap := if needGap wbAbsorb havePrev prevWb f then [gapEvent first] else []
    let later := groupEvents wbAbsorb rest false true (decide (f = .wordBreak))
    (gap ++ (symEvent f).toList ++ later.1, later.2)

/-- `ToEvents` of the groups that follow a point where `havePrev` and `prevWb` hold (R173). -/
def eventsFrom (wbAbsorb : Bool) : List Group → (havePrev prevWb : Bool) → List Event
  | [], _, _ => []
  | g :: rest, havePrev, prevWb =>
    let r := groupEvents wbAbsorb g true havePrev prevWb
    r.1 ++ eventsFrom wbAbsorb rest r.2.1 r.2.2

/-- `ToEvents(groups)` (R173). -/
def toEvents (wbAbsorb : Bool) (groups : List Group) : List Event :=
  eventsFrom wbAbsorb groups false false

/-- `EncodeToEvents(text, mode)` (R179). -/
def encodeToEvents (cfg : Config) (text : List Byte) (mode : Mode) : Except CodecError (List Event) :=
  match encodeText cfg text mode with
  | .ok groups => .ok (toEvents cfg.wbAbsorb groups)
  | .error e => .error e

/-- The total of `units` over the events whose signal is `on` (R188). -/
def totalUnits (on : Bool) (evs : List Event) : Nat :=
  ((evs.filter (fun e => e.on == on)).map (fun e => e.units.toNat)).sum

end Sys2Proof.Machine
end

