-- ==== Sys2Proof/Machine/Ops.lean ====
section
/-! DEFINITION. The named operations on the state. Those of one cycle take the state `s` before the
clock edge, which every right-hand side reads, and the state `t` being built for after it
(`00_scope.md` R10, `45_cycle_fsm.md` R231). -/

namespace Sys2Proof.Machine

/-- `RegRead(a)` (`44_host_ops.md` R215 to R218). No side effect. -/
def regRead (s : State) (a : RegAddr) : Word16 :=
  if a = 0#2 then s.unit
  else if a = 1#2 then (bit s.lenient).setWidth 16
  else if a = 2#2 then (bit s.skip ++ bit s.fatal ++ bit s.unk ++ bit (busy s)).setWidth 16
  else s.lkChar ++ bit s.lkFound ++ 0#1 ++ s.lkIdx

/-- `Outputs(S, a)` (`45_cycle_fsm.md` R232). -/
def outputs (s : State) (a : RegAddr) : Outputs :=
  { inReady := inReady s, key := keyOut s, evValid := s.evStb, evOn := s.evOn,
    evUnits := s.evUnits, evTicks := s.evTicks, done := decide (s.fsm = .done),
    doneErr := s.errMsg, regRdata := regRead s a }

/-- The output event as one word, format `EVENT23` (`30_encoding.md` R88). -/
def eventWord (o : Outputs) : BitVec 23 := bit o.evOn ++ o.evUnits ++ o.evTicks

/-- The end-of-message word, format `DONE1` (`30_encoding.md` R89). -/
def doneWord (o : Outputs) : BitVec 1 := bit o.doneErr

/-- `ResetState(cfg)` (`10_state.md` R48, `70_reset_and_hazards.md` R300), whatever the present state. -/
def resetCore (s : State) : State :=
  { s with
    fsm := .idle, holdValid := false, holdChar := 0x00#8, holdLast := false, curChar := 0x00#8,
    curLast := false, idx := 0#6, sr := 0x0000#16, slot := 0#4, cnt := 0#19, evOn := false,
    evUnits := 0#3, evTicks := 0#19, evStb := false, firstSym := false, havePrev := false,
    prevWb := false, skip := false, errMsg := false, unk := false, fatal := !tableAligned s.cfg,
    unit := s.cfg.resetUnit, lenient := s.cfg.resetLenient, lkChar := 0x00#8, lkFound := false,
    lkIdx := 0#6 }

/-- The input transfer (`44_host_ops.md` R203): the character is stored as given. -/
def transfer (s : State) (p : Inputs) (t : State) : State :=
  if transfers s p then { t with holdValid := true, holdChar := p.inChar, holdLast := p.inLast }
  else t

/-- `LoadEvent(on, units)` (`43_timing.md` R181): the duration is taken from `UNIT` before the edge. -/
def loadEvent (s : State) (e : Event) (t : State) : State :=
  { t with evOn := e.on, evUnits := e.units, evTicks := ratioTicks e.units s.unit,
           cnt := ratioTicks e.units s.unit, evStb := true }

/-- The end of a character: `DONE` after the last of a message, else `IDLE`. -/
def endCharacter (s t : State) : State := { t with fsm := if s.curLast then .done else .idle }

/-- The `LOOKUP` update at the end of a search (`41_char_index.md` R139). -/
def setLookup (s : State) (found : Bool) (t : State) : State :=
  { t with lkChar := s.curChar, lkFound := found, lkIdx := s.idx }

/-- TAKING THE EXCEPTION UnknownCharacter (`60_exceptions.md` R277 strict, R278 lenient): `unk` and
`LOOKUP` record it, in strict mode the message fails, and the character ends. -/
def takeUnknownCharacter (s t : State) : State :=
  let t := setLookup s false { t with unk := true }
  endCharacter s (if s.lenient then t else { t with errMsg := true, skip := true })

/-- RETURN from a failed message, and the end of every message (R280, `45_cycle_fsm.md` R238). -/
def endMessage (t : State) : State :=
  { t with havePrev := false, prevWb := false, skip := false, errMsg := false, fsm := .idle }

/-- The load of a record (`40_record_codec.md` R120). -/
def loadRecord (w : Word16) (t : State) : State :=
  { t with sr := w, slot := 0#4, firstSym := true, fsm := .unpack }

/-- The register write (`45_cycle_fsm.md` R241, `44_host_ops.md` R209 to R213). -/
def regWrite (s : State) (p : Inputs) (t : State) : State :=
  if writesReg p 0#2 then { t with unit := p.regWdata }
  else if writesReg p 1#2 then { t with lenient := p.regWdata.getLsbD 0 }
  else if writesReg p 2#2 then
    if p.regWdata.getLsbD 1 && !unkSetNow s then { t with unk := false } else t
  else t

/-- ABORT (`44_host_ops.md` R211), overriding the other actions of the cycle. -/
def abort (t : State) : State :=
  { t with fsm := .idle, holdValid := false, havePrev := false, prevWb := false, skip := false,
           errMsg := false, cnt := 0#19, evStb := false }

/-- Step 5 of `45_cycle_fsm.md` R231. -/
def abortStep (p : Inputs) (t : State) : State := if aborts p then abort t else t

/-- What every cycle does to the model's own fields: the cycle's inputs `p` are used up, the cycle is
counted, and its outputs (of the state before the edge, R231) are what the host has observed. -/
def advance (s : State) (p : Inputs) (t : State) : State :=
  { t with host := s.host.tail, now := s.now + 1, out := outputs s p.regAddr }

/-- The host drives the values `p` on the input ports in this cycle. -/
def State.drive (s : State) (p : Inputs) : State := { s with host := p :: s.host.tail }

/-- The symbol `f` stands at `sr[15:14]`. -/
def State.placeSymbol (f : Symbol) (s : State) : State := { s with sr := setHead f s.sr }

/-- The character code `c` stands where a character is executed: normalised in `cur_char` during
`SCAN`, else in the holding register, as given (`10_state.md` R21, R22). -/
def State.placeChar (c : Byte) (s : State) : State :=
  if s.fsm = .scan then { s with curChar := normalize c }
  else { s with holdValid := true, holdChar := c }

/-- PUTC on the input port (`30_encoding.md` R95); the other ports keep what the host drives. -/
def putcPins (last : Bool) (c : Byte) (p : Inputs) : Inputs :=
  { p with inValid := true, inChar := c, inLast := last }

/-- A register write on the register port (R95). -/
def writePins (a : RegAddr) (v : Word16) (p : Inputs) : Inputs :=
  { p with regWe := true, regAddr := a, regWdata := v }

/-- A register read on the register port (R95): `reg_addr` selects the register. -/
def readPins (a : RegAddr) (p : Inputs) : Inputs := { p with regAddr := a }

end Sys2Proof.Machine
end

