-- ==== Sys2Proof/Machine/Cycle.lean ====
section
/-! DEFINITION. One clock cycle: the state actions of `45_cycle_fsm.md` (R233 to R238) and the order
of one step (R231). In every action `s` is the state before the clock edge and `t` the state being
built: right-hand sides read `s`, writes go to `t`. -/

namespace Sys2Proof.Machine

/-- What a cycle answers. -/
abbrev Result := Host.Outcome State Fault Refusal

/-- State `IDLE` (R233): takes the held character, or drops it while a failed message is discarded. -/
def idleAction (s t : State) : State :=
  if s.holdValid then
    if s.skip then { t with holdValid := false, fsm := if s.holdLast then .done else .idle }
    else { t with holdValid := false, curChar := normalize s.holdChar, curLast := s.holdLast,
                  idx := 0#6, fsm := .scan }
  else t

/-- State `SCAN` (R234): one entry per cycle, the sentinel tested first (`41_char_index.md` R137). -/
def scanAction (s t : State) : Result :=
  match s.cfg.charRom.read s.idx.toNat with
  | none => .fault .charRomIndex
  | some c =>
    if c = s.cfg.sentinel then .next (takeUnknownCharacter s t)
    else if c = s.curChar then
      match recWord s.cfg s.idx.toNat with
      | some w => .next (loadRecord w (setLookup s true t))
      | none => .fault .recRomAddress
    else .next { t with idx := s.idx + 1#6 }

/-- The load of a symbol's event (R235, R236). -/
def loadSymbol (f : Symbol) (s t : State) : Result :=
  match symEvent f with
  | some e => .next { loadEvent s e t with fsm := .tSym }
  | none => .refused .symEventOfTerminator

/-- State `UNPACK` (R235): the end of the character, a gap event, or the symbol's event. -/
def unpackAction (s t : State) : Result :=
  if recordFinished s then .next (endCharacter s t)
  else if needGap s.cfg.wbAbsorb s.havePrev s.prevWb (headSymbol s.sr) then
    .next { loadEvent s (gapEvent s.firstSym) t with fsm := .tGap }
  else loadSymbol (headSymbol s.sr) s t

/-- One counting cycle of the duration counter (`43_timing.md` R182). -/
def countTick (tick : Bool) (s t : State) : State :=
  if tick then { t with cnt := s.cnt - 1#19 } else t

/-- State `T_GAP` (R236): when the gap has expired, the symbol it was waiting for is loaded. -/
def gapAction (tick : Bool) (s t : State) : Result :=
  if s.cnt = 0#19 then loadSymbol (headSymbol s.sr) s t else .next (countTick tick s t)

/-- The symbol's event has expired (R237, `40_record_codec.md` R122, R123). -/
def finishSymbol (s t : State) : State :=
  { t with prevWb := decide (headSymbol s.sr = .wordBreak), sr := s.sr <<< 2,
           slot := s.slot + 1#4, firstSym := false, havePrev := true, fsm := .unpack }

/-- State `T_SYM` (R237). -/
def symAction (tick : Bool) (s t : State) : State :=
  if s.cnt = 0#19 then finishSymbol s t else countTick tick s t

/-- The action of the control state (step 3 of R231). -/
def fsmAction (tick : Bool) (s t : State) : Result :=
  match s.fsm with
  | .idle => .next (idleAction s t)
  | .scan => scanAction s t
  | .unpack => unpackAction s t
  | .tGap => gapAction tick s t
  | .tSym => .next (symAction tick s t)
  | .done => .next (endMessage t)

/-- Steps 1 and 2 of R231: the strobe falls, an offered character is transferred. -/
def beforeAction (s : State) (p : Inputs) : State := transfer s p { s with evStb := false }

/-- Steps 4 and 5 of R231: the register write, then ABORT. -/
def afterAction (s : State) (p : Inputs) (t : State) : State := abortStep p (regWrite s p t)

/-- The end of a cycle whose state action made `t`: steps 4 and 5, then the model's own fields. -/
def edge (s : State) (p : Inputs) (t : State) : State := advance s p (afterAction s p t)

/-- The clock edge of the state `s` with the inputs `p`: `Step(cfg, S, I)` of R231. Reset overrides
everything (R300); a configuration outside the spec is refused (`00_scope.md` R7). -/
def clock (s : State) (p : Inputs) : Result :=
  if supported s.cfg then
    if p.rst then .next (advance s p (resetCore s))
    else
      match fsmAction p.tick s (beforeAction s p) with
      | .next t => .next (edge s p t)
      | .fault r => .fault r
      | .refused r => .refused r
  else .refused .configOutsideSpec

/-- The clock edge with the inputs that the host drives in the present cycle. -/
def cycle (s : State) : Result := clock s s.pins

end Sys2Proof.Machine
end

