-- ==== Sys2Proof/Machine/Characters.lean ====
section
/-! DEFINITION. The meanings of the character codes (`46_char_table.md` R400 to R440): the clock cycle
in which the code stands where characters are executed. In `IDLE` it is the held character, which is
normalised and taken (`45_cycle_fsm.md` R233); in `SCAN` it is the normalised character that the
search compares with one table entry (R234); in the other states it is a character waiting in the
holding register (`10_state.md` R21). What it selects is the record at its ordinal. -/

namespace Sys2Proof.Machine

/-- `0`, ordinal 0 (R400). -/
def execChar0 (s : State) : Result := cycle (s.placeChar 0x30#8)

/-- `1`, ordinal 1 (R401). -/
def execChar1 (s : State) : Result := cycle (s.placeChar 0x31#8)

/-- `2`, ordinal 2 (R402). -/
def execChar2 (s : State) : Result := cycle (s.placeChar 0x32#8)

/-- `3`, ordinal 3 (R403). -/
def execChar3 (s : State) : Result := cycle (s.placeChar 0x33#8)

/-- `4`, ordinal 4 (R404). -/
def execChar4 (s : State) : Result := cycle (s.placeChar 0x34#8)

/-- `5`, ordinal 5 (R405). -/
def execChar5 (s : State) : Result := cycle (s.placeChar 0x35#8)

/-- `6`, ordinal 6 (R406). -/
def execChar6 (s : State) : Result := cycle (s.placeChar 0x36#8)

/-- `7`, ordinal 7 (R407). -/
def execChar7 (s : State) : Result := cycle (s.placeChar 0x37#8)

/-- `8`, ordinal 8 (R408). -/
def execChar8 (s : State) : Result := cycle (s.placeChar 0x38#8)

/-- `9`, ordinal 9 (R409). -/
def execChar9 (s : State) : Result := cycle (s.placeChar 0x39#8)

/-- `A`, ordinal 10 (R410), upper or lower case. -/
def execCharA (lower : Bool) (s : State) : Result :=
  cycle (s.placeChar (letterCode 0x41#8 lower))

/-- `B`, ordinal 11 (R411), upper or lower case. -/
def execCharB (lower : Bool) (s : State) : Result :=
  cycle (s.placeChar (letterCode 0x42#8 lower))

/-- `C`, ordinal 12 (R412), upper or lower case. -/
def execCharC (lower : Bool) (s : State) : Result :=
  cycle (s.placeChar (letterCode 0x43#8 lower))

/-- `D`, ordinal 13 (R413), upper or lower case. -/
def execCharD (lower : Bool) (s : State) : Result :=
  cycle (s.placeChar (letterCode 0x44#8 lower))

/-- `E`, ordinal 14 (R414), upper or lower case. -/
def execCharE (lower : Bool) (s : State) : Result :=
  cycle (s.placeChar (letterCode 0x45#8 lower))

/-- `F`, ordinal 15 (R415), upper or lower case. -/
def execCharF (lower : Bool) (s : State) : Result :=
  cycle (s.placeChar (letterCode 0x46#8 lower))

/-- `G`, ordinal 16 (R416), upper or lower case. -/
def execCharG (lower : Bool) (s : State) : Result :=
  cycle (s.placeChar (letterCode 0x47#8 lower))

/-- `H`, ordinal 17 (R417), upper or lower case. -/
def execCharH (lower : Bool) (s : State) : Result :=
  cycle (s.placeChar (letterCode 0x48#8 lower))

/-- `I`, ordinal 18 (R418), upper or lower case. -/
def execCharI (lower : Bool) (s : State) : Result :=
  cycle (s.placeChar (letterCode 0x49#8 lower))

/-- `J`, ordinal 19 (R419), upper or lower case. -/
def execCharJ (lower : Bool) (s : State) : Result :=
  cycle (s.placeChar (letterCode 0x4A#8 lower))

/-- `K`, ordinal 20 (R420), upper or lower case. -/
def execCharK (lower : Bool) (s : State) : Result :=
  cycle (s.placeChar (letterCode 0x4B#8 lower))

/-- `L`, ordinal 21 (R421), upper or lower case. -/
def execCharL (lower : Bool) (s : State) : Result :=
  cycle (s.placeChar (letterCode 0x4C#8 lower))

/-- `M`, ordinal 22 (R422), upper or lower case. -/
def execCharM (lower : Bool) (s : State) : Result :=
  cycle (s.placeChar (letterCode 0x4D#8 lower))

/-- `N`, ordinal 23 (R423), upper or lower case. -/
def execCharN (lower : Bool) (s : State) : Result :=
  cycle (s.placeChar (letterCode 0x4E#8 lower))

/-- `O`, ordinal 24 (R424), upper or lower case. -/
def execCharO (lower : Bool) (s : State) : Result :=
  cycle (s.placeChar (letterCode 0x4F#8 lower))

/-- `P`, ordinal 25 (R425), upper or lower case. -/
def execCharP (lower : Bool) (s : State) : Result :=
  cycle (s.placeChar (letterCode 0x50#8 lower))

/-- `Q`, ordinal 26 (R426), upper or lower case. -/
def execCharQ (lower : Bool) (s : State) : Result :=
  cycle (s.placeChar (letterCode 0x51#8 lower))

/-- `R`, ordinal 27 (R427), upper or lower case. -/
def execCharR (lower : Bool) (s : State) : Result :=
  cycle (s.placeChar (letterCode 0x52#8 lower))

/-- `S`, ordinal 28 (R428), upper or lower case. -/
def execCharS (lower : Bool) (s : State) : Result :=
  cycle (s.placeChar (letterCode 0x53#8 lower))

/-- `T`, ordinal 29 (R429), upper or lower case. -/
def execCharT (lower : Bool) (s : State) : Result :=
  cycle (s.placeChar (letterCode 0x54#8 lower))

/-- `U`, ordinal 30 (R430), upper or lower case. -/
def execCharU (lower : Bool) (s : State) : Result :=
  cycle (s.placeChar (letterCode 0x55#8 lower))

/-- `V`, ordinal 31 (R431), upper or lower case. -/
def execCharV (lower : Bool) (s : State) : Result :=
  cycle (s.placeChar (letterCode 0x56#8 lower))

/-- `W`, ordinal 32 (R432), upper or lower case. -/
def execCharW (lower : Bool) (s : State) : Result :=
  cycle (s.placeChar (letterCode 0x57#8 lower))

/-- `X`, ordinal 33 (R433), upper or lower case. -/
def execCharX (lower : Bool) (s : State) : Result :=
  cycle (s.placeChar (letterCode 0x58#8 lower))

/-- `Y`, ordinal 34 (R434), upper or lower case. -/
def execCharY (lower : Bool) (s : State) : Result :=
  cycle (s.placeChar (letterCode 0x59#8 lower))

/-- `Z`, ordinal 35 (R435), upper or lower case. -/
def execCharZ (lower : Bool) (s : State) : Result :=
  cycle (s.placeChar (letterCode 0x5A#8 lower))

/-- `.`, ordinal 36 (R436). -/
def execCharPeriod (s : State) : Result := cycle (s.placeChar 0x2E#8)

/-- `/`, ordinal 37 (R437). -/
def execCharSlash (s : State) : Result := cycle (s.placeChar 0x2F#8)

/-- `?`, ordinal 38 (R438). -/
def execCharQuestion (s : State) : Result := cycle (s.placeChar 0x3F#8)

/-- space, ordinal 39 (R439). -/
def execCharSpace (s : State) : Result := cycle (s.placeChar 0x20#8)

/-- The sentinel value as a character code (R440, `41_char_index.md` R134): no entry before the
sentinel matches it, so its search ends in UnknownCharacter. -/
def execSentinel (s : State) : Result := cycle (s.placeChar 0x00#8)

end Sys2Proof.Machine
end

