-- ==== Sys2Proof/Machine/HostOps.lean ====
section
/-! DEFINITION. The meanings of the host operations (`44_host_ops.md` R204, R209 to R218): the clock
cycle in which the operation stands on its port (`30_encoding.md` R95). The other ports keep what the
host drives in that cycle, so that operations of one cycle combine (`70_reset_and_hazards.md` R318). -/

namespace Sys2Proof.Machine

/-- PUTC and PUTC.L (R204): transferred if `in_ready` is 1, else nothing happens. -/
def execPutc (last : Bool) (c : Byte) (s : State) : Result := clock s (putcPins last c s.pins)

/-- WR UNIT, v (R209). -/
def execWrUnit (v : Word16) (s : State) : Result := clock s (writePins 0#2 v s.pins)

/-- WR CTRL, v (R210): the mode, and ABORT (R211) when `v[1] = 1`. -/
def execWrCtrl (v : Word16) (s : State) : Result := clock s (writePins 1#2 v s.pins)

/-- WR STATUS, v (R212). -/
def execWrStatus (v : Word16) (s : State) : Result := clock s (writePins 2#2 v s.pins)

/-- WR LOOKUP, v (R213): no effect. -/
def execWrLookup (v : Word16) (s : State) : Result := clock s (writePins 3#2 v s.pins)

/-- RD UNIT (R215): the value appears on `reg_rdata` in the same cycle. -/
def execRdUnit (s : State) : Result := clock s (readPins 0#2 s.pins)

/-- RD CTRL (R216). -/
def execRdCtrl (s : State) : Result := clock s (readPins 1#2 s.pins)

/-- RD STATUS (R217). -/
def execRdStatus (s : State) : Result := clock s (readPins 2#2 s.pins)

/-- RD LOOKUP (R218). -/
def execRdLookup (s : State) : Result := clock s (readPins 3#2 s.pins)

/-! The pseudo-operations of `30_encoding.md` R96 and the operations they expand to. -/

/-- `PUTS "c1c2...cn"` (n >= 1): the source's `encode(text)` call. -/
def pseudoPuts : List Byte → List Instr
  | [] => []
  | [c] => [.putc true c]
  | c :: rest => .putc false c :: pseudoPuts rest

/-- `ABORT`: the mode is kept. -/
def pseudoAbort (s : State) : Instr := .wrCtrl (regRead s 1#2 ||| 0x0002#16)

/-- `CLRUNK`. -/
def pseudoClrUnk : Instr := .wrStatus 0x0002#16

end Sys2Proof.Machine
end

