-- ==== Sys2Proof/Machine/Symbols.lean ====
section
/-! DEFINITION. The meanings of the symbol codes (`40_record_codec.md` R112 to R115): the clock cycle
in which the code stands at `sr[15:14]`. What the code does in it is the unpacker's decision in
`UNPACK` (R235), the wait for its gap in `T_GAP` (R236), and its own event in `T_SYM` (R237). -/

namespace Sys2Proof.Machine

/-- TERMINATOR (R112): ends the character in `UNPACK`. -/
def execTerminator (s : State) : Result := cycle (s.placeSymbol .terminator)

/-- DOT (R113): an on-event of 1 unit. -/
def execDot (s : State) : Result := cycle (s.placeSymbol .dot)

/-- DASH (R114): an on-event of 3 units. -/
def execDash (s : State) : Result := cycle (s.placeSymbol .dash)

/-- WORD_BREAK (R115): an off-event of 7 units. -/
def execWordBreak (s : State) : Result := cycle (s.placeSymbol .wordBreak)

end Sys2Proof.Machine
end

