-- ==== Sys2Proof/Machine/Dispatch.lean ====
section
/-! DEFINITION. exec: one arm per constructor of Instr, each a direct call of the meaning. -/

namespace Sys2Proof.Machine
open Sys2Proof

def exec (i : Instr) (s : State) : Host.Outcome State Fault Refusal :=
  match i with
  | .terminator => Sys2Proof.Machine.execTerminator s
  | .dot => Sys2Proof.Machine.execDot s
  | .dash => Sys2Proof.Machine.execDash s
  | .wordBreak => Sys2Proof.Machine.execWordBreak s
  | .char0 => Sys2Proof.Machine.execChar0 s
  | .char1 => Sys2Proof.Machine.execChar1 s
  | .char2 => Sys2Proof.Machine.execChar2 s
  | .char3 => Sys2Proof.Machine.execChar3 s
  | .char4 => Sys2Proof.Machine.execChar4 s
  | .char5 => Sys2Proof.Machine.execChar5 s
  | .char6 => Sys2Proof.Machine.execChar6 s
  | .char7 => Sys2Proof.Machine.execChar7 s
  | .char8 => Sys2Proof.Machine.execChar8 s
  | .char9 => Sys2Proof.Machine.execChar9 s
  | .charA lower => Sys2Proof.Machine.execCharA lower s
  | .charB lower => Sys2Proof.Machine.execCharB lower s
  | .charC lower => Sys2Proof.Machine.execCharC lower s
  | .charD lower => Sys2Proof.Machine.execCharD lower s
  | .charE lower => Sys2Proof.Machine.execCharE lower s
  | .charF lower => Sys2Proof.Machine.execCharF lower s
  | .charG lower => Sys2Proof.Machine.execCharG lower s
  | .charH lower => Sys2Proof.Machine.execCharH lower s
  | .charI lower => Sys2Proof.Machine.execCharI lower s
  | .charJ lower => Sys2Proof.Machine.execCharJ lower s
  | .charK lower => Sys2Proof.Machine.execCharK lower s
  | .charL lower => Sys2Proof.Machine.execCharL lower s
  | .charM lower => Sys2Proof.Machine.execCharM lower s
  | .charN lower => Sys2Proof.Machine.execCharN lower s
  | .charO lower => Sys2Proof.Machine.execCharO lower s
  | .charP lower => Sys2Proof.Machine.execCharP lower s
  | .charQ lower => Sys2Proof.Machine.execCharQ lower s
  | .charR lower => Sys2Proof.Machine.execCharR lower s
  | .charS lower => Sys2Proof.Machine.execCharS lower s
  | .charT lower => Sys2Proof.Machine.execCharT lower s
  | .charU lower => Sys2Proof.Machine.execCharU lower s
  | .charV lower => Sys2Proof.Machine.execCharV lower s
  | .charW lower => Sys2Proof.Machine.execCharW lower s
  | .charX lower => Sys2Proof.Machine.execCharX lower s
  | .charY lower => Sys2Proof.Machine.execCharY lower s
  | .charZ lower => Sys2Proof.Machine.execCharZ lower s
  | .charPeriod => Sys2Proof.Machine.execCharPeriod s
  | .charSlash => Sys2Proof.Machine.execCharSlash s
  | .charQuestion => Sys2Proof.Machine.execCharQuestion s
  | .charSpace => Sys2Proof.Machine.execCharSpace s
  | .sentinel => Sys2Proof.Machine.execSentinel s
  | .putc last c => Sys2Proof.Machine.execPutc last c s
  | .wrUnit v => Sys2Proof.Machine.execWrUnit v s
  | .wrCtrl v => Sys2Proof.Machine.execWrCtrl v s
  | .wrStatus v => Sys2Proof.Machine.execWrStatus v s
  | .wrLookup v => Sys2Proof.Machine.execWrLookup v s
  | .rdUnit => Sys2Proof.Machine.execRdUnit s
  | .rdCtrl => Sys2Proof.Machine.execRdCtrl s
  | .rdStatus => Sys2Proof.Machine.execRdStatus s
  | .rdLookup => Sys2Proof.Machine.execRdLookup s

end Sys2Proof.Machine
end

