-- ==== Sys2Proof/Machine/Fetch.lean ====
section
/-! DEFINITION. Fetch: which code words stand at their places in a cycle, and which of them step
runs. MORSE-ENC has no program counter and fetches nothing from an instruction memory
(`10_state.md` R38); a code word is executed because of the place it stands at. Several may stand in
one cycle (`70_reset_and_hazards.md` R318); each one's meaning is that whole cycle, so which of them
is picked makes no difference. -/

namespace Sys2Proof.Machine

/-- The code word the core itself executes in this cycle: the symbol at `sr[15:14]` (R38), or the
character being taken or searched. A held character that is dropped (`45_cycle_fsm.md` R233, `skip`)
or waits is not executed. -/
def coreWord (s : State) : Option CodeWord :=
  match s.fsm with
  | .idle => if s.holdValid && !s.skip then some (.char8 s.holdChar) else none
  | .scan => if normalize s.curChar = s.curChar then some (.char8 s.curChar) else none
  | .unpack | .tGap | .tSym => some (.sym2 (slotCode s.sr 0))
  | .done => none

/-- The register write on the register port. -/
def writeWord (s : State) : Option CodeWord :=
  if s.pins.regWe then some (regPortWord s.pins) else none

/-- The character on the input port. -/
def putcWord (s : State) : Option CodeWord :=
  if s.pins.inValid then some (charInWord s.pins) else none

/-- The code words that stand at their places in this cycle. The register read always does. -/
def presented (s : State) : List CodeWord :=
  (writeWord s).toList ++ (putcWord s).toList ++ (coreWord s).toList ++ [.regr2 s.pins.regAddr]

/-- The first of them that decodes. A character code that matches no row decodes to nothing; its
search still runs in the cycle, and ends in UnknownCharacter (`41_char_index.md` R133). -/
def firstInstr : List CodeWord → Option Instr
  | [] => none
  | w :: ws =>
    match decode w with
    | .ok i => some i
    | .error _ => firstInstr ws

/-- The instruction step runs. -/
def fetch (s : State) : Instr :=
  match firstInstr (presented s) with
  | some i => i
  | none => decodeRegRead s.pins.regAddr

/-- The state in which the word `w` is the one that step picks next, with no other operation on the
ports. A symbol is put at `sr[15:14]` in `UNPACK`, a character into the holding register in `IDLE`, a
host operation on its port. -/
def presentWord (s : State) (w : CodeWord) : State :=
  match w with
  | .sym2 c =>
    { s.drive .quiet with fsm := .unpack, slot := 0#4, sr := setHead (Symbol.ofCode c) s.sr }
  | .char8 c => { s.drive .quiet with fsm := .idle, holdValid := true, holdChar := c, skip := false }
  | .charin9 x =>
    s.drive { Inputs.quiet with inValid := true, inLast := x.getLsbD 8, inChar := x.extractLsb' 0 8 }
  | .regw18 x =>
    s.drive { Inputs.quiet with regWe := true, regAddr := x.extractLsb' 16 2, regWdata := x.extractLsb' 0 16 }
  | .regr2 a => s.drive { Inputs.quiet with regAddr := a }

/-- The same for a word of the opcode table: the word of the instruction it decodes to, or, where an
8-bit word decodes to none, that word as a character code. -/
def presentTableWord (s : State) (nbits w : Nat) : State :=
  match decodeTableWord nbits w with
  | some i => presentWord s (encode i)
  | none => if nbits = 8 ∧ w < 256 then presentWord s (CodeWord.ofNat .char8 w) else s

end Sys2Proof.Machine
end

