-- ==== Sys2Proof/Machine/Step.lean ====
section
/-! DEFINITION. step: one rising edge of `clk` (`00_scope.md` R8), run as the meaning of the
instruction that fetch picks. -/

namespace Sys2Proof.Machine

/-- One step of the machine. -/
def step (s : State) : Host.Outcome State Fault Refusal := exec (fetch s) s

/-- `s` with the instruction of a table word standing where the next step picks its instruction. -/
def State.withFetchWord (s : State) (nbits w : Nat) : State := presentTableWord s nbits w

end Sys2Proof.Machine
end

