-- ==== Sys2Proof/WellFormed.lean ====
section
/-! DEFINITION. What is well formed: instructions (by the widths of their operands, which their types
carry), configurations (`00_scope.md` R7), symbol sequences and records (`40_record_codec.md` R119,
R124). -/

namespace Sys2Proof

/-- The word of an instruction stands in the format the table gives its row. Operand widths are
carried by the operands' types, so no other check of an instruction exists. -/
def Instr.wellFormed (i : Instr) : Bool := decide ((encode i).format = i.format)

/-- A number is a word of a format (`30_encoding.md` R80 to R87). -/
def wordFits (f : Format) (w : Nat) : Bool := decide (w < 2 ^ f.width)

/-- A configuration is well formed (R7): the tables are aligned, and it is not outside the spec. -/
def Config.wellFormed (cfg : Config) : Bool :=
  Machine.tableAligned cfg && Machine.supported cfg

/-- A symbol sequence is valid for `Pack` and the round trip (R119): at most 8 symbols, no
TERMINATOR. -/
def validSymbols (xs : List Symbol) : Bool :=
  decide (xs.length ≤ SLOTS) && xs.all (fun x => decide (x ≠ .terminator))

end Sys2Proof
end

