-- ==== Sys2Proof/Safety.lean ====
section
/-! DEFINITION. The terms the statements use: the invariants of `10_state.md` R47, runs and their
traces (`45_cycle_fsm.md` R260), and what the functional layer expects of them (R262). -/

namespace Sys2Proof.Machine

/-! ## States -/

/-- The invariants (a) to (j) of `10_state.md` R47, for a configuration that is not outside the spec,
with `fatal` as reset computed it (R37). -/
structure Inv (s : State) : Prop where
  /-- `00_scope.md` R7 (b), (c) -/
  cfgSupported : supported s.cfg = true
  /-- R37: `fatal` is what the reset action computes -/
  fatalIsMisaligned : s.fatal = !tableAligned s.cfg
  /-- (a) -/
  slotBound : s.slot.toNat ≤ 8
  /-- (b) -/
  idxBound : s.idx.toNat ≤ s.cfg.nChars
  /-- (c) -/
  unitsLegal : s.evUnits = 0#3 ∨ s.evUnits = 1#3 ∨ s.evUnits = 3#3 ∨ s.evUnits = 7#3
  /-- (d) -/
  ticksBound : s.evTicks.toNat ≤ 7 * (2 ^ UNIT_W - 1)
  /-- (d) -/
  cntBound : s.cnt.toNat ≤ s.evTicks.toNat
  /-- (e) -/
  gapIsOff : s.fsm = .tGap → s.evOn = false
  /-- (f) -/
  symHead : s.fsm = .tSym → headSymbol s.sr ≠ .terminator ∧ s.slot.toNat ≤ 7
  /-- (f) -/
  symOn : s.fsm = .tSym → (s.evOn = true ↔ headSymbol s.sr = .dot ∨ headSymbol s.sr = .dash)
  /-- (g) -/
  gapHead : s.fsm = .tGap → headSymbol s.sr ≠ .terminator ∧ s.slot.toNat ≤ 7 ∧ s.havePrev = true
  /-- (h) -/
  skipFailed : s.skip = true → s.errMsg = true
  /-- (i) -/
  fatalIdle : s.fatal = true → s.fsm = .idle ∧ s.holdValid = false
  /-- (j) -/
  strobeTimed : s.evStb = true → s.fsm = .tGap ∨ s.fsm = .tSym

/-- The core is idle and holds no character. -/
def State.quiescent (s : State) : Bool := decide (s.fsm = .idle) && !s.holdValid

/-- No message is open: the per-message state is clear (`44_host_ops.md` R205). -/
def State.noMessage (s : State) : Bool := !s.havePrev && !s.prevWb && !s.skip && !s.errMsg

/-- The host neither resets nor aborts in a cycle with the inputs `p`. -/
def keepsMessage (p : Inputs) : Bool := !p.rst && !aborts p

/-- The inputs of the cycle that is `k` cycles ahead. -/
def State.pinsAt (s : State) (k : Nat) : Inputs :=
  match s.host.drop k with
  | p :: _ => p
  | [] => Config.hostInputs (s.now + k)

/-! ## Runs and traces -/

/-- `n` steps, if each answers a next state. -/
def runSteps : Nat → State → Option State
  | 0, s => some s
  | n + 1, s =>
    match step s with
    | .next t => runSteps n t
    | _ => none

/-- What a host sees at the event and `done` outputs, in one time order (R262 (f)). -/
inductive Mark where
  /-- a cycle with `ev_valid = 1` and its `(ev_on, ev_units)` -/
  | event (e : Event)
  /-- a cycle with `done = 1` and its `done_err` -/
  | done (err : Bool)
  deriving DecidableEq, Repr

/-- The traces of R260, and the further ones that R262 speaks of. -/
structure Traces where
  /-- the event trace: `(ev_on, ev_units)` in the cycles with `ev_valid = 1` -/
  events : List Event
  /-- the tick trace: `ev_ticks` in the cycles with `ev_valid = 1` -/
  ticks : List Ticks
  /-- the done trace: `done_err` in the cycles with `done = 1` -/
  dones : List Bool
  /-- the input trace: `(in_char, in_last)` in the transfer cycles -/
  inputs : List (Byte × Bool)
  /-- the event trace and the done trace in one time order (R262 (f)) -/
  marks : List Mark
  /-- the cycles in which a search reaches the sentinel: the normalised character and the value of
  `lenient`, the `mode_j(c)` of R262 (`42_encoder.md` R163) -/
  failures : List (Byte × Mode)
  /-- `UNIT` in the cycles before a strobe cycle (R262 (e)) -/
  loadUnits : List Word16
  deriving DecidableEq, Repr

/-- The traces of no cycle. -/
def Traces.none : Traces :=
  { events := [], ticks := [], dones := [], inputs := [], marks := [], failures := [], loadUnits := [] }

/-- What one cycle, from `s` to `t`, adds to the traces. All but `loadUnits` depend on `s` alone. -/
def cycleTraces (s t : State) : Traces :=
  let o := outputs s s.pins.regAddr
  let e : Event := ⟨o.evOn, o.evUnits⟩
  { events := if o.evValid then [e] else [],
    ticks := if o.evValid then [o.evTicks] else [],
    dones := if o.done then [o.doneErr] else [],
    inputs := if s.pins.inValid && o.inReady then [(s.pins.inChar, s.pins.inLast)] else [],
    marks := (if o.evValid then [.event e] else []) ++ (if o.done then [.done o.doneErr] else []),
    failures := if unkSetNow s then [(s.curChar, Mode.ofLenient s.lenient)] else [],
    loadUnits := if t.evStb then [s.unit] else [] }

/-- The traces of some cycles before those of later ones. -/
def Traces.append (a b : Traces) : Traces :=
  { events := a.events ++ b.events, ticks := a.ticks ++ b.ticks, dones := a.dones ++ b.dones,
    inputs := a.inputs ++ b.inputs, marks := a.marks ++ b.marks,
    failures := a.failures ++ b.failures, loadUnits := a.loadUnits ++ b.loadUnits }

/-- The state after `n` steps and the traces of these `n` cycles. -/
def runTraces : Nat → State → Option (State × Traces)
  | 0, s => some (s, .none)
  | n + 1, s =>
    match step s with
    | .next t =>
      match runTraces n t with
      | some (u, later) => some (u, (cycleTraces s t).append later)
      | none => none
    | _ => none

/-! ## What the functional layer expects under a constant mode (R262 (c), (d)) -/

/-- The characters of a message that are encoded: in strict mode those before the first unknown one
(R262 (a)). -/
def encodedPrefix (cfg : Config) (mode : Mode) (message : List Byte) : List Byte :=
  match mode with
  | .strict => message.takeWhile (known cfg)
  | .lenient => message

/-- The groups of a text with the unknown characters skipped (`EncodeText(., LENIENT)`, R156). -/
def lenientGroups (cfg : Config) (text : List Byte) : List Group :=
  match encodeText cfg text .lenient with
  | .ok groups => groups
  | .error _ => []

/-- The events of one message (R262 (a)). -/
def messageEvents (cfg : Config) (mode : Mode) (message : List Byte) : List Event :=
  toEvents cfg.wbAbsorb (lenientGroups cfg (encodedPrefix cfg mode message))

/-- `done_err` of one message (R262 (b)): 1 exactly when it failed in strict mode. -/
def messageFails (cfg : Config) (mode : Mode) (message : List Byte) : Bool :=
  decide ((encodedPrefix cfg mode message).length < message.length)

/-- The messages of an input trace, each with the flag that it is complete; `cur` are the characters
of the message open so far (R205, R260). An unfinished message is listed last, if it has characters. -/
def messagesFrom (cur : List Byte) : List (Byte × Bool) → List (List Byte × Bool)
  | [] => if cur.isEmpty then [] else [(cur, false)]
  | (c, true) :: rest => (cur ++ [c], true) :: messagesFrom [] rest
  | (c, false) :: rest => messagesFrom (cur ++ [c]) rest

/-- The event trace R262 (a) and (f) expect of an input trace. -/
def expectedEvents (cfg : Config) (mode : Mode) (inputs : List (Byte × Bool)) : List Event :=
  (messagesFrom [] inputs).flatMap (fun m => messageEvents cfg mode m.1)

/-- The done trace R262 (b) expects of an input trace: one entry per complete message. -/
def expectedDones (cfg : Config) (mode : Mode) (inputs : List (Byte × Bool)) : List Bool :=
  ((messagesFrom [] inputs).filter (fun m => m.2)).map (fun m => messageFails cfg mode m.1)

/-- The events of a message and then, if it is complete, its `done` pulse (R262 (f)). -/
def messageMarks (events : List Event) (complete err : Bool) : List Mark :=
  events.map .event ++ (if complete then [.done err] else [])

/-- The interleaved trace R262 (a), (b) and (f) expect of an input trace. -/
def expectedMarks (cfg : Config) (mode : Mode) (inputs : List (Byte × Bool)) : List Mark :=
  (messagesFrom [] inputs).flatMap
    (fun m => messageMarks (messageEvents cfg mode m.1) m.2 (messageFails cfg mode m.1))

/-! ## What it expects when every failed lookup has a mode of its own (R262 (a), (b)) -/

/-- The prefix `pj` of a message: its characters up to the first unknown one that meets `lenient = 0`,
where `failures` are the failed lookups from the start of the message on; and the failed lookups that
remain after it. A character whose failed lookup is not (yet) among them ends the prefix as well. -/
def resolveMessage (cfg : Config) : List Byte → List (Byte × Mode) → List Byte × List (Byte × Mode)
  | [], failures => ([], failures)
  | c :: rest, failures =>
    if known cfg c then
      let r := resolveMessage cfg rest failures
      (c :: r.1, r.2)
    else
      match failures with
      | [] => ([], [])
      | (d, mode) :: later =>
        if d ≠ normalize c then ([], [])
        else
          match mode with
          | .strict => ([], later)
          | .lenient =>
            let r := resolveMessage cfg rest later
            (c :: r.1, r.2)

/-- Each message of the input trace with its prefix `pj` and the flag that it is complete. -/
def resolveMessages (cfg : Config) :
    List (List Byte × Bool) → List (Byte × Mode) → List (List Byte × List Byte × Bool)
  | [], _ => []
  | (message, complete) :: rest, failures =>
    let r := resolveMessage cfg message failures
    (message, r.1, complete) :: resolveMessages cfg rest r.2

/-- `Ej = ToEvents(EncodeText(pj, LENIENT))` (R262 (a)). -/
def prefixEvents (cfg : Config) (pj : List Byte) : List Event :=
  toEvents cfg.wbAbsorb (lenientGroups cfg pj)

/-- The interleaved trace R262 (a), (b) and (f) expect of an input trace whose failed lookups met the
modes `failures`: entry `j` of the done trace is 1 exactly when `pj` is a proper prefix. -/
def resolvedMarks (cfg : Config) (inputs : List (Byte × Bool)) (failures : List (Byte × Mode)) :
    List Mark :=
  (resolveMessages cfg (messagesFrom [] inputs) failures).flatMap
    (fun m => messageMarks (prefixEvents cfg m.2.1) m.2.2 (decide (m.2.1.length < m.1.length)))

/-- The events of an interleaved trace. -/
def Mark.events (marks : List Mark) : List Event :=
  marks.filterMap (fun m => match m with | .event e => some e | .done _ => Option.none)

/-- The `done` entries of an interleaved trace. -/
def Mark.dones (marks : List Mark) : List Bool :=
  marks.filterMap (fun m => match m with | .event _ => Option.none | .done err => some err)

end Sys2Proof.Machine
end

