-- ==== Sys2Proof/Certificates/Slice0/Obligations.lean ====
section
/-! DEFINITION. The statements for the provers. Each docstring names the rules of spec/ it follows and
how the instructions it covers are named. `edge s p t` is the end of the cycle of `s` whose state action
made `t`; `beforeAction s p` is `s` after the cycle's strobe clear and input transfer (both are stated
explicitly by `CycleOpensWithStrobeAndTransfer` and `CycleEndsWithWriteAndAbort`). -/

/-! ## Tables the statements quote -/

/-- The digit rows of `46_char_table.md` R400 to R409: instruction, code, normalised code, ordinal,
record word. -/
def Sys2Proof.Claims.digitTable : List (Sys2Proof.Instr × Sys2Proof.Byte × Sys2Proof.Byte × Nat × Sys2Proof.Word16) :=
  [(.char0, 0x30#8, 0x30#8, 0, 0xAA80#16),
   (.char1, 0x31#8, 0x31#8, 1, 0x6A80#16),
   (.char2, 0x32#8, 0x32#8, 2, 0x5A80#16),
   (.char3, 0x33#8, 0x33#8, 3, 0x5680#16),
   (.char4, 0x34#8, 0x34#8, 4, 0x5580#16),
   (.char5, 0x35#8, 0x35#8, 5, 0x5540#16),
   (.char6, 0x36#8, 0x36#8, 6, 0x9540#16),
   (.char7, 0x37#8, 0x37#8, 7, 0xA540#16),
   (.char8, 0x38#8, 0x38#8, 8, 0xA940#16),
   (.char9, 0x39#8, 0x39#8, 9, 0xAA40#16)]

/-- The letter rows of R410 to R435, each letter in both cases. -/
def Sys2Proof.Claims.letterTable : List (Sys2Proof.Instr × Sys2Proof.Byte × Sys2Proof.Byte × Nat × Sys2Proof.Word16) :=
  [(.charA false, 0x41#8, 0x41#8, 10, 0x6000#16),
   (.charA true, 0x61#8, 0x41#8, 10, 0x6000#16),
   (.charB false, 0x42#8, 0x42#8, 11, 0x9500#16),
   (.charB true, 0x62#8, 0x42#8, 11, 0x9500#16),
   (.charC false, 0x43#8, 0x43#8, 12, 0x9900#16),
   (.charC true, 0x63#8, 0x43#8, 12, 0x9900#16),
   (.charD false, 0x44#8, 0x44#8, 13, 0x9400#16),
   (.charD true, 0x64#8, 0x44#8, 13, 0x9400#16),
   (.charE false, 0x45#8, 0x45#8, 14, 0x4000#16),
   (.charE true, 0x65#8, 0x45#8, 14, 0x4000#16),
   (.charF false, 0x46#8, 0x46#8, 15, 0x5900#16),
   (.charF true, 0x66#8, 0x46#8, 15, 0x5900#16),
   (.charG false, 0x47#8, 0x47#8, 16, 0xA400#16),
   (.charG true, 0x67#8, 0x47#8, 16, 0xA400#16),
   (.charH false, 0x48#8, 0x48#8, 17, 0x5500#16),
   (.charH true, 0x68#8, 0x48#8, 17, 0x5500#16),
   (.charI false, 0x49#8, 0x49#8, 18, 0x5000#16),
   (.charI true, 0x69#8, 0x49#8, 18, 0x5000#16),
   (.charJ false, 0x4A#8, 0x4A#8, 19, 0x6A00#16),
   (.charJ true, 0x6A#8, 0x4A#8, 19, 0x6A00#16),
   (.charK false, 0x4B#8, 0x4B#8, 20, 0x9800#16),
   (.charK true, 0x6B#8, 0x4B#8, 20, 0x9800#16),
   (.charL false, 0x4C#8, 0x4C#8, 21, 0x6500#16),
   (.charL true, 0x6C#8, 0x4C#8, 21, 0x6500#16),
   (.charM false, 0x4D#8, 0x4D#8, 22, 0xA000#16),
   (.charM true, 0x6D#8, 0x4D#8, 22, 0xA000#16),
   (.charN false, 0x4E#8, 0x4E#8, 23, 0x9000#16),
   (.charN true, 0x6E#8, 0x4E#8, 23, 0x9000#16),
   (.charO false, 0x4F#8, 0x4F#8, 24, 0xA800#16),
   (.charO true, 0x6F#8, 0x4F#8, 24, 0xA800#16),
   (.charP false, 0x50#8, 0x50#8, 25, 0x6900#16),
   (.charP true, 0x70#8, 0x50#8, 25, 0x6900#16),
   (.charQ false, 0x51#8, 0x51#8, 26, 0xA600#16),
   (.charQ true, 0x71#8, 0x51#8, 26, 0xA600#16),
   (.charR false, 0x52#8, 0x52#8, 27, 0x6400#16),
   (.charR true, 0x72#8, 0x52#8, 27, 0x6400#16),
   (.charS false, 0x53#8, 0x53#8, 28, 0x5400#16),
   (.charS true, 0x73#8, 0x53#8, 28, 0x5400#16),
   (.charT false, 0x54#8, 0x54#8, 29, 0x8000#16),
   (.charT true, 0x74#8, 0x54#8, 29, 0x8000#16),
   (.charU false, 0x55#8, 0x55#8, 30, 0x5800#16),
   (.charU true, 0x75#8, 0x55#8, 30, 0x5800#16),
   (.charV false, 0x56#8, 0x56#8, 31, 0x5600#16),
   (.charV true, 0x76#8, 0x56#8, 31, 0x5600#16),
   (.charW false, 0x57#8, 0x57#8, 32, 0x6800#16),
   (.charW true, 0x77#8, 0x57#8, 32, 0x6800#16),
   (.charX false, 0x58#8, 0x58#8, 33, 0x9600#16),
   (.charX true, 0x78#8, 0x58#8, 33, 0x9600#16),
   (.charY false, 0x59#8, 0x59#8, 34, 0x9A00#16),
   (.charY true, 0x79#8, 0x59#8, 34, 0x9A00#16),
   (.charZ false, 0x5A#8, 0x5A#8, 35, 0xA500#16),
   (.charZ true, 0x7A#8, 0x5A#8, 35, 0xA500#16)]

/-- The rows of R436 to R439: period, slash, question mark, space. -/
def Sys2Proof.Claims.otherTable : List (Sys2Proof.Instr × Sys2Proof.Byte × Sys2Proof.Byte × Nat × Sys2Proof.Word16) :=
  [(.charPeriod, 0x2E#8, 0x2E#8, 36, 0x6660#16),
   (.charSlash, 0x2F#8, 0x2F#8, 37, 0x9640#16),
   (.charQuestion, 0x3F#8, 0x3F#8, 38, 0x5A50#16),
   (.charSpace, 0x20#8, 0x20#8, 39, 0xC000#16)]

/-- The rows of the 40 characters, R400 to R439: the codes that select each entry, its normalised
code, its ordinal and its record word. -/
def Sys2Proof.Claims.characterTable : List (Sys2Proof.Instr × Sys2Proof.Byte × Sys2Proof.Byte × Nat × Sys2Proof.Word16) :=
  Sys2Proof.Claims.digitTable ++ Sys2Proof.Claims.letterTable ++ Sys2Proof.Claims.otherTable

/-- The three symbols with an event (`40_record_codec.md` R113 to R115, `43_timing.md` R170): the
instruction, its symbol, `on` and `units`. -/
def Sys2Proof.Claims.symbolTable : List (Sys2Proof.Instr × Sys2Proof.Symbol × Bool × Nat) :=
  [(.dot, .dot, true, 1), (.dash, .dash, true, 3), (.wordBreak, .wordBreak, false, 7)]

/-- The four `SYM2` instructions with their symbols. -/
def Sys2Proof.Claims.codeTable : List (Sys2Proof.Instr × Sys2Proof.Symbol) :=
  [(.terminator, .terminator), (.dot, .dot), (.dash, .dash), (.wordBreak, .wordBreak)]

/-- The event registers after a load of `units` with the unit `u`: `units * u` ticks, exact. -/
def Sys2Proof.Claims.loaded (on : Bool) (units : Nat) (u : Sys2Proof.Word16) (t : Sys2Proof.Machine.State) :
    Sys2Proof.Machine.State :=
  { t with evOn := on, evUnits := BitVec.ofNat 3 units, evTicks := BitVec.ofNat 19 (units * u.toNat),
           cnt := BitVec.ofNat 19 (units * u.toNat), evStb := true }

/-- The cycle of `s` with the inputs `p` in place of those the host drives. -/
def Sys2Proof.Claims.cycleWith (s : Sys2Proof.Machine.State) (p : Sys2Proof.Inputs) : Sys2Proof.Machine.Result :=
  Sys2Proof.Machine.clock s p

/-- The symbols of `groups` in order, each with the number of its group. -/
def Sys2Proof.Claims.tagged (groups : List Sys2Proof.Machine.Group) : List (Nat × Sys2Proof.Symbol) :=
  groups.zipIdx.flatMap (fun g => g.1.map (fun f => (g.2, f)))

/-- The event of a symbol, R170: DOT on 1, DASH on 3, WORD_BREAK off 7. -/
def Sys2Proof.Claims.eventOf : Sys2Proof.Symbol → List Sys2Proof.Machine.Event
  | .terminator => []
  | .dot => [⟨true, 1#3⟩]
  | .dash => [⟨true, 3#3⟩]
  | .wordBreak => [⟨false, 7#3⟩]

/-- The events that the gap rule R172 (and R175 with `wbAbsorb`) gives tagged symbols, each after the
symbol `prev` if there is one: a gap of 1 inside a group, of 3 between groups. -/
def Sys2Proof.Claims.gapRule (wbAbsorb : Bool) : Option (Nat × Sys2Proof.Symbol) → List (Nat × Sys2Proof.Symbol) → List Sys2Proof.Machine.Event
  | _, [] => []
  | none, b :: rest => Sys2Proof.Claims.eventOf b.2 ++ Sys2Proof.Claims.gapRule wbAbsorb (some b) rest
  | some a, b :: rest =>
    (if wbAbsorb ∧ (a.2 = .wordBreak ∨ b.2 = .wordBreak) then []
      else [⟨false, if a.1 = b.1 then 1#3 else 3#3⟩])
    ++ Sys2Proof.Claims.eventOf b.2 ++ Sys2Proof.Claims.gapRule wbAbsorb (some b) rest

/-- The number of ticks the host gives in the next `n` cycles. -/
def Sys2Proof.Claims.ticksIn (s : Sys2Proof.Machine.State) (n : Nat) : Nat :=
  (List.range n).countP (fun k => (s.pinsAt k).tick)

open Sys2Proof Sys2Proof.Machine Sys2Proof.Claims

/-! ## Encoding and fetch -/

/-- Decode and encode agree for every instruction, every operand at every value (`30_encoding.md`
R80, R83, R85 to R87, R97). -/
def Obligations.EncodedInstructionsDecodeBack : Prop :=
  ∀ i : Instr, decode (encode i) = .ok i

/-- Each word has one meaning: a word that decodes is the encoding of what it decodes to (R97). -/
def Obligations.DecodedWordsEncodeBack : Prop :=
  ∀ (w : CodeWord) (i : Instr), decode w = .ok i → encode i = w

/-- Sanity: a few words written out from R80, R83, R85 to R87. -/
def Obligations.WrittenOutWordsDecode : Prop :=
  decode (.sym2 0b10#2) = .ok .dash ∧ decode (.char8 0b01100001#8) = .ok (.charA true)
  ∧ decode (.charin9 0b101000101#9) = .ok (.putc true 0x45#8)
  ∧ decode (.regw18 0b010000000000000011#18) = .ok (.wrCtrl 0x0003#16)
  ∧ decode (.regr2 0b11#2) = .ok .rdLookup
  ∧ decode (.char8 0x23#8) = .error (.unknownCharacter 0x23#8)

/-- The `CHAR8` rows are the search (R83, R91, `41_char_index.md` R130, R131): a code decodes to the
character whose ordinal `IndexOf` gives it, and a code that matches no row, or only the sentinel's, is
UnknownCharacter with its normalised code. -/
def Obligations.CharacterRowsAgreeWithSearch : Prop :=
  ∀ c : Byte,
    (∀ i, decode (.char8 c) = .ok i → i ≠ .sentinel →
      ∃ up n w, (i, c, up, n, w) ∈ characterTable ∧ indexOf specConfig c = .ok n ∧ lookup specConfig c = .ok w)
    ∧ (decode (.char8 c) = .ok .sentinel → indexOf specConfig c = .error (.unknownCharacter 0#8 none))
    ∧ (∀ e, decode (.char8 c) = .error e →
        e = .unknownCharacter c ∧ indexOf specConfig c = .error (.unknownCharacter (normalize c) none))

/-- A STEP RUNS THE DECODED INSTRUCTION (`00_scope.md` R8, `45_cycle_fsm.md` R231): whichever code word
stands at its place in the cycle, if it decodes to `i` then step is exec of `i`, with nothing around
it; and some word that decodes always stands there, the register read. That a code word's meaning is the
whole cycle it stands in is the model's choice (log entry 4). -/
def Obligations.StepRunsThePresentedInstruction : Prop :=
  ∀ s : State,
    (∀ w i, w ∈ presented s → decode w = .ok i → step s = exec i s)
    ∧ (CodeWord.regr2 s.pins.regAddr ∈ presented s ∧ ∃ i, decode (.regr2 s.pins.regAddr) = .ok i)

/-! ## Functional layer -/

/-- `40_record_codec.md` R111, R116: `Unpack` gives the leading non-TERMINATOR slots, at most eight, and
stops at the first TERMINATOR or after the eighth slot. -/
def Obligations.UnpackGivesTheLeadingSlots : Prop :=
  ∀ w : Word16,
    (unpack w).length ≤ 8
    ∧ (∀ k, k < (unpack w).length →
        (unpack w)[k]? = some (Symbol.ofCode (slotCode w k)) ∧ Symbol.ofCode (slotCode w k) ≠ .terminator)
    ∧ ((unpack w).length < 8 → Symbol.ofCode (slotCode w (unpack w).length) = .terminator)
    ∧ Symbol.terminator ∉ unpack w

/-- R117: the slots after the first TERMINATOR are ignored. -/
def Obligations.UnpackIgnoresSlotsAfterTerminator : Prop :=
  (∀ w v : Word16, (∀ k, k ≤ (unpack w).length → k < 8 → slotCode w k = slotCode v k) → unpack w = unpack v)
  ∧ unpack 0x60FF#16 = unpack 0x6000#16 ∧ unpack 0x6000#16 = [.dot, .dash]

/-- R119: `Unpack` after `Pack` gives back every sequence of at most 8 symbols without a TERMINATOR. -/
def Obligations.UnpackAfterPackIsIdentity : Prop :=
  ∀ xs : List Symbol, xs.length ≤ 8 → Symbol.terminator ∉ xs → ∃ w, pack xs = .ok w ∧ unpack w = xs

/-- R119, the other direction: `Pack` after `Unpack` clears every slot from the first TERMINATOR on, and
gives `w` itself exactly when they are clear already. -/
def Obligations.PackAfterUnpackClearsThePadding : Prop :=
  ∀ w : Word16, ∃ v, pack (unpack w) = .ok v
    ∧ (∀ k, k < 8 → slotCode v k = if k < (unpack w).length then slotCode w k else 0#2)
    ∧ (v = w ↔ ∀ k, (unpack w).length ≤ k → k < 8 → slotCode w k = 0#2)

/-- R118, `60_exceptions.md` R272: `Pack` fails exactly above 8 symbols, with RecordOverflow and the
length; otherwise slot `k` of the word is the code of symbol `k` and the unused slots are `00`. -/
def Obligations.PackFillsSlotsOrOverflows : Prop :=
  ∀ xs : List Symbol,
    (8 < xs.length → pack xs = .error (.recordOverflow xs.length))
    ∧ (xs.length ≤ 8 → ∃ w, pack xs = .ok w
        ∧ ∀ k, k < 8 → slotCode w k = ((xs[k]?).map Symbol.code).getD 0#2)

/-- `41_char_index.md` R131, R132: under aligned tables `IndexOf` gives the lowest index at which the
normalised code stands. -/
def Obligations.IndexOfGivesTheFirstMatch : Prop :=
  ∀ (cfg : Config) (c : Byte) (i : Nat), tableAligned cfg = true →
    (indexOf cfg c = .ok i ↔
      i < cfg.nChars ∧ cfg.charRom.read i = some (normalize c)
        ∧ ∀ j, j < i → cfg.charRom.read j ≠ some (normalize c))

/-- R133, R134: under aligned tables `IndexOf` fails exactly when the normalised code stands at no
ordinal, with UnknownCharacter and that code; a code that normalises to the sentinel always fails. -/
def Obligations.IndexOfFailsForAbsentCharacters : Prop :=
  ∀ (cfg : Config) (c : Byte), tableAligned cfg = true →
    (indexOf cfg c = .error (.unknownCharacter (normalize c) none) ↔
      ∀ j, j < cfg.nChars → cfg.charRom.read j ≠ some (normalize c))
    ∧ (normalize c = cfg.sentinel → indexOf cfg c = .error (.unknownCharacter (normalize c) none))

/-- `46_char_table.md` R441 over the spec's tables: no code occurs twice, none equals the sentinel, every
record has a TERMINATOR slot and only `00` after it, unpacks to 1 to 6 symbols (1 exactly for `E`, `T` and
space, 6 exactly for `.` and `?`), holds a WORD_BREAK only as the space's single symbol, and has a second
byte 0 exactly for the letters and the space. -/
def Obligations.SpecTablesAreWellFormed : Prop :=
  tableAligned specConfig = true ∧ specConfig.nChars = 40 ∧ charBytes.Nodup
  ∧ ∀ i, i < 40 → ∃ w, recWord specConfig i = some w ∧ recordWellFormed w = true
      ∧ paddedWithTerminators w = true ∧ 1 ≤ (unpack w).length ∧ (unpack w).length ≤ 6
      ∧ ((unpack w).length = 1 ↔ i = 14 ∨ i = 29 ∨ i = 39)
      ∧ ((unpack w).length = 6 ↔ i = 36 ∨ i = 38)
      ∧ (Symbol.wordBreak ∈ unpack w ↔ i = 39) ∧ (i = 39 → unpack w = [.wordBreak])
      ∧ (w.extractLsb' 0 8 = 0#8 ↔ (10 ≤ i ∧ i ≤ 35) ∨ i = 39)

/-- The source's examples (`42_encoder.md` R150, `43_timing.md` R188): the five printed encodings, and the
on-time 15 and off-time 12 of SOS. -/
def Obligations.SourceExamplesEncode : Prop :=
  encodeChar specConfig 0x41#8 = .ok [.dot, .dash]
  ∧ encodeChar specConfig 0x30#8 = .ok [.dash, .dash, .dash, .dash, .dash]
  ∧ encodeChar specConfig 0x2E#8 = .ok [.dot, .dash, .dot, .dash, .dot, .dash]
  ∧ encodeChar specConfig 0x3F#8 = .ok [.dot, .dot, .dash, .dash, .dot, .dot]
  ∧ encodeChar specConfig 0x20#8 = .ok [.wordBreak]
  ∧ ∃ evs, encodeToEvents specConfig [0x53#8, 0x4F#8, 0x53#8] .strict = .ok evs ∧ evs.length = 17
      ∧ totalUnits true evs = 15 ∧ totalUnits false evs = 12

/-- `42_encoder.md` R152, R155, R156: strict mode encodes a text of known characters and fails at the
first unknown one with its normalised code and position; lenient mode encodes the known characters. -/
def Obligations.EncodeTextStrictAndLenient : Prop :=
  ∀ (cfg : Config) (text : List Byte), tableAligned cfg = true →
    ((∀ c ∈ text, known cfg c = true) →
      ∃ gs, encodeText cfg text .strict = .ok gs ∧ gs.map Except.ok = text.map (encodeChar cfg))
    ∧ (∀ pre c post, text = pre ++ c :: post → (∀ d ∈ pre, known cfg d = true) → known cfg c = false →
        encodeText cfg text .strict = .error (.unknownCharacter (normalize c) (some pre.length)))
    ∧ ∃ gs, encodeText cfg text .lenient = .ok gs
        ∧ gs.map Except.ok = (text.filter (known cfg)).map (encodeChar cfg)

/-- `43_timing.md` R172 to R175: between two consecutive symbols there is one gap event, 1 unit inside a
group and 3 across groups (none next to a WORD_BREAK under `WB_ABSORB = 1`), none before the first
symbol and none after the last; empty groups add nothing. -/
def Obligations.ToEventsFollowsTheGapRule : Prop :=
  ∀ (wbAbsorb : Bool) (groups : List Group), (∀ g ∈ groups, Symbol.terminator ∉ g) →
    toEvents wbAbsorb groups = gapRule wbAbsorb none (tagged groups)

/-- R173, R177: with `WB_ABSORB = 0`, `n >= 1` symbols give `2n - 1` events, the first and the last of
them a symbol's event. -/
def Obligations.LiteralEventsCountAndEnds : Prop :=
  ∀ groups : List Group, (∀ g ∈ groups, Symbol.terminator ∉ g) → flattenGroups groups ≠ [] →
    (toEvents false groups).length = 2 * (flattenGroups groups).length - 1
    ∧ (toEvents false groups).head? = (flattenGroups groups).head?.bind symEvent
    ∧ (toEvents false groups).getLast? = (flattenGroups groups).getLast?.bind symEvent

/-- `45_cycle_fsm.md` R261 for the events of one message: two on-events are never adjacent, under either
value of `WB_ABSORB`. -/
def Obligations.OnEventsAreNeverAdjacent : Prop :=
  ∀ (wbAbsorb : Bool) (groups : List Group), (∀ g ∈ groups, Symbol.terminator ∉ g) →
    ∀ (k : Nat) (a b : Event), (toEvents wbAbsorb groups)[k]? = some a →
      (toEvents wbAbsorb groups)[k + 1]? = some b → ¬ (a.on = true ∧ b.on = true)

/-! ## The cycle -/

/-- `45_cycle_fsm.md` R231 steps 1 and 2, `44_host_ops.md` R202, R203: the strobe falls and, exactly with
`in_valid = 1`, `hold_valid = 0` and `fatal = 0`, the character is stored as given. -/
def Obligations.CycleOpensWithStrobeAndTransfer : Prop :=
  ∀ (s : State) (p : Inputs), beforeAction s p =
    if p.inValid = true ∧ s.holdValid = false ∧ s.fatal = false then
      { s with evStb := false, holdValid := true, holdChar := p.inChar, holdLast := p.inLast }
    else { s with evStb := false }

/-- `45_cycle_fsm.md` R231 steps 4 and 5, R241, `44_host_ops.md` R211: what a register write and ABORT do
to the state `t` that the state action of `s` has made, for each register. -/
def Obligations.CycleEndsWithWriteAndAbort : Prop :=
  ∀ (s : State) (p : Inputs) (t : State),
    (p.regWe = false → afterAction s p t = t)
    ∧ (p.regWe = true → p.regAddr = 0#2 → afterAction s p t = { t with unit := p.regWdata })
    ∧ (p.regWe = true → p.regAddr = 1#2 → p.regWdata.getLsbD 1 = false →
        afterAction s p t = { t with lenient := p.regWdata.getLsbD 0 })
    ∧ (p.regWe = true → p.regAddr = 1#2 → p.regWdata.getLsbD 1 = true →
        afterAction s p t = { t with lenient := p.regWdata.getLsbD 0, fsm := .idle, holdValid := false,
                                     havePrev := false, prevWb := false, skip := false, errMsg := false,
                                     cnt := 0#19, evStb := false })
    ∧ (p.regWe = true → p.regAddr = 2#2 →
        afterAction s p t = if p.regWdata.getLsbD 1 = true
            ∧ ¬ (s.fsm = .scan ∧ s.cfg.charRom.read s.idx.toNat = some s.cfg.sentinel)
          then { t with unk := false } else t)
    ∧ (p.regWe = true → p.regAddr = 3#2 → afterAction s p t = t)

/-- `45_cycle_fsm.md` R233, state IDLE: nothing held, nothing changes; a held character is taken
normalised, or dropped while a failed message is discarded; the fatal core stays idle and empty. -/
def Obligations.IdleTakesOrDropsTheHeldCharacter : Prop :=
  ∀ s : State, supported s.cfg = true → s.pins.rst = false → s.fsm = .idle →
    (s.holdValid = false → step s = .next (edge s s.pins (beforeAction s s.pins)))
    ∧ (s.holdValid = true → s.skip = true →
        step s = .next (edge s s.pins { beforeAction s s.pins with
          holdValid := false, fsm := if s.holdLast then .done else .idle }))
    ∧ (s.holdValid = true → s.skip = false →
        step s = .next (edge s s.pins { beforeAction s s.pins with
          holdValid := false, curChar := normalize s.holdChar, curLast := s.holdLast, idx := 0#6,
          fsm := .scan }))
    ∧ (s.fatal = true → s.holdValid = false →
        ∃ t, step s = .next t ∧ t.fsm = .idle ∧ t.holdValid = false ∧ t.fatal = true)

/-- `45_cycle_fsm.md` R234, state SCAN: the sentinel test first, then the match, else the next entry. -/
def Obligations.ScanComparesOneEntry : Prop :=
  ∀ (s : State) (c : Byte), supported s.cfg = true → s.pins.rst = false → s.fsm = .scan →
    s.cfg.charRom.read s.idx.toNat = some c →
    (c = s.cfg.sentinel → s.lenient = false →
        step s = .next (edge s s.pins { beforeAction s s.pins with
          lkChar := s.curChar, lkFound := false, lkIdx := s.idx, unk := true, errMsg := true, skip := true,
          fsm := if s.curLast then .done else .idle }))
    ∧ (c = s.cfg.sentinel → s.lenient = true →
        step s = .next (edge s s.pins { beforeAction s s.pins with
          lkChar := s.curChar, lkFound := false, lkIdx := s.idx, unk := true,
          fsm := if s.curLast then .done else .idle }))
    ∧ (∀ w, c ≠ s.cfg.sentinel → c = s.curChar → recWord s.cfg s.idx.toNat = some w →
        step s = .next (edge s s.pins { beforeAction s s.pins with
          lkChar := s.curChar, lkFound := true, lkIdx := s.idx, sr := w, slot := 0#4, firstSym := true,
          fsm := .unpack }))
    ∧ (c ≠ s.cfg.sentinel → c ≠ s.curChar → step s = .next (edge s s.pins { beforeAction s s.pins with idx := s.idx + 1#6 }))

/-- `45_cycle_fsm.md` R238, state DONE, and `44_host_ops.md` R206: one cycle, in which `done = 1` and
`done_err` is `err_msg`; the per-message state is cleared and a held character stays held. -/
def Obligations.DoneClosesTheMessage : Prop :=
  ∀ s : State, supported s.cfg = true → s.pins.rst = false → s.fsm = .done →
    step s = .next (edge s s.pins { beforeAction s s.pins with
      havePrev := false, prevWb := false, skip := false, errMsg := false, fsm := .idle })
    ∧ ∃ t, step s = .next t ∧ t.fsm = .idle ∧ t.out.done = true ∧ t.out.doneErr = s.errMsg
        ∧ (s.holdValid = true → aborts s.pins = false →
            t.holdValid = true ∧ t.holdChar = s.holdChar ∧ t.holdLast = s.holdLast)

/-- `70_reset_and_hazards.md` R300, `10_state.md` R48: in a cycle with `rst = 1` every instruction leaves
the reset values, whatever the state and the other inputs; only the model's own fields differ. -/
def Obligations.ResetOverridesEveryInstruction : Prop :=
  ∀ (i : Instr) (s : State), supported s.cfg = true → s.pins.rst = true →
    ∃ o, exec i s = .next
      { cfg := s.cfg, fsm := .idle, holdValid := false, holdChar := 0#8, holdLast := false, curChar := 0#8,
        curLast := false, idx := 0#6, sr := 0#16, slot := 0#4, cnt := 0#19, evOn := false, evUnits := 0#3,
        evTicks := 0#19, evStb := false, firstSym := false, havePrev := false, prevWb := false,
        skip := false, errMsg := false, unk := false, fatal := !tableAligned s.cfg, unit := s.cfg.resetUnit,
        lenient := s.cfg.resetLenient, lkChar := 0#8, lkFound := false, lkIdx := 0#6,
        host := s.host.tail, now := s.now + 1, out := o }

/-- `10_state.md` R48, `70_reset_and_hazards.md` R300: the state after reset, and what its first cycle
shows: ready, no event, no `done`, `UNIT` reads 1, `CTRL`, `STATUS` and `LOOKUP` read 0. -/
def Obligations.ResetStateHasTheSpecValues : Prop :=
  State.reset.fsm = .idle ∧ State.reset.holdValid = false ∧ State.reset.holdChar = 0#8
  ∧ State.reset.holdLast = false ∧ State.reset.curChar = 0#8 ∧ State.reset.curLast = false
  ∧ State.reset.idx = 0#6 ∧ State.reset.sr = 0#16 ∧ State.reset.slot = 0#4 ∧ State.reset.cnt = 0#19
  ∧ State.reset.evOn = false ∧ State.reset.evUnits = 0#3 ∧ State.reset.evTicks = 0#19
  ∧ State.reset.firstSym = false ∧ State.reset.havePrev = false ∧ State.reset.prevWb = false
  ∧ State.reset.skip = false ∧ State.reset.errMsg = false ∧ State.reset.unk = false
  ∧ State.reset.fatal = false ∧ State.reset.unit = 1#16 ∧ State.reset.lenient = false
  ∧ State.reset.lkChar = 0#8 ∧ State.reset.lkFound = false ∧ State.reset.lkIdx = 0#6
  ∧ State.reset.evStb = false
  ∧ outputs State.reset 0#2 = ⟨true, false, false, false, 0#3, 0#19, false, false, 0x0001#16⟩
  ∧ regRead State.reset 1#2 = 0#16 ∧ regRead State.reset 2#2 = 0#16 ∧ regRead State.reset 3#2 = 0#16

/-- `00_scope.md` R7, `93_implementation_defined.md` U12: under a configuration that violates (b) or (c)
every instruction is refused by name (that the refusal is a step's answer is the model's choice, log
entry 7). -/
def Obligations.ConfigurationOutsideTheSpecIsRefused : Prop :=
  ∀ (i : Instr) (s : State), supported s.cfg = false → exec i s = .refused .configOutsideSpec

/-! ## Symbols -/

/-- `45_cycle_fsm.md` R235, `43_timing.md` R172, R175, R181: DOT, DASH and WORD_BREAK in UNPACK. A gap of 3
units (first symbol of its character) or 1 unit is loaded first where one is due, else the symbol's own
event; durations are units times `UNIT` before the edge. -/
def Obligations.SymbolInUnpackLoadsGapOrEvent : Prop :=
  ∀ r ∈ symbolTable, ∀ s : State, supported s.cfg = true → s.pins.rst = false →
    s.fsm = .unpack → s.slot ≠ 8#4 →
    let p := { s with sr := r.2.1.code ++ s.sr.extractLsb' 0 14 }
    exec r.1 s = .next (edge p s.pins
      (if s.havePrev = true ∧ ¬ (s.cfg.wbAbsorb = true ∧ (s.prevWb = true ∨ r.2.1 = .wordBreak)) then
        { loaded false (if s.firstSym then 3 else 1) s.unit (beforeAction p s.pins) with fsm := .tGap }
      else { loaded r.2.2.1 r.2.2.2 s.unit (beforeAction p s.pins) with fsm := .tSym }))

/-- `45_cycle_fsm.md` R236: when the gap has expired, DOT, DASH and WORD_BREAK load their own event. -/
def Obligations.SymbolAfterItsGapLoadsItsEvent : Prop :=
  ∀ r ∈ symbolTable, ∀ s : State, supported s.cfg = true → s.pins.rst = false →
    s.fsm = .tGap → s.cnt = 0#19 →
    let p := { s with sr := r.2.1.code ++ s.sr.extractLsb' 0 14 }
    exec r.1 s = .next (edge p s.pins { loaded r.2.2.1 r.2.2.2 s.unit (beforeAction p s.pins) with fsm := .tSym })

/-- `45_cycle_fsm.md` R237, `40_record_codec.md` R122, R123: when the event of DOT, DASH or WORD_BREAK has
expired, `sr` shifts by one symbol, `slot` counts it, and the gap flags are updated. -/
def Obligations.SymbolExpiryShiftsTheRecord : Prop :=
  ∀ r ∈ symbolTable, ∀ s : State, supported s.cfg = true → s.pins.rst = false →
    s.fsm = .tSym → s.cnt = 0#19 →
    let p := { s with sr := r.2.1.code ++ s.sr.extractLsb' 0 14 }
    exec r.1 s = .next (edge p s.pins { beforeAction p s.pins with
      prevWb := decide (r.2.1 = .wordBreak), sr := s.sr.extractLsb' 0 14 ++ 0#2, slot := s.slot + 1#4,
      firstSym := false, havePrev := true, fsm := .unpack })

/-- `43_timing.md` R182, `45_cycle_fsm.md` R236, R237: while an event counts, every symbol only waits:
`cnt` falls by one in a cycle with `tick = 1` and keeps otherwise. -/
def Obligations.RunningEventCountsTicks : Prop :=
  ∀ r ∈ codeTable, ∀ s : State, supported s.cfg = true → s.pins.rst = false →
    (s.fsm = .tGap ∨ s.fsm = .tSym) → s.cnt ≠ 0#19 →
    let p := { s with sr := r.2.code ++ s.sr.extractLsb' 0 14 }
    exec r.1 s = .next (edge p s.pins
      (if s.pins.tick then { beforeAction p s.pins with cnt := BitVec.ofNat 19 (s.cnt.toNat - 1) } else beforeAction p s.pins))

/-- `40_record_codec.md` R112, R116, `45_cycle_fsm.md` R235: TERMINATOR in UNPACK ends the character, and so
does every symbol code once eight slots are consumed; no symbol register or flag changes. -/
def Obligations.TerminatorOrEighthSlotEndsTheCharacter : Prop :=
  ∀ r ∈ codeTable, ∀ s : State, supported s.cfg = true → s.pins.rst = false → s.fsm = .unpack →
    (r.1 = .terminator ∨ s.slot = 8#4) →
    let p := { s with sr := r.2.code ++ s.sr.extractLsb' 0 14 }
    exec r.1 s = .next (edge p s.pins { beforeAction p s.pins with fsm := if s.curLast then .done else .idle })

/-- `43_timing.md` R171, `93_implementation_defined.md` U13: TERMINATOR at the expiry of a gap would ask for
`SymEvent(TERMINATOR)`, which is undefined: refused by name (log entry 8). At the expiry of a symbol's event it shifts
like any code (`45_cycle_fsm.md` R237). -/
def Obligations.TerminatorOutsideUnpack : Prop :=
  ∀ s : State, supported s.cfg = true → s.pins.rst = false → s.cnt = 0#19 →
    (s.fsm = .tGap → exec .terminator s = .refused .symEventOfTerminator)
    ∧ (s.fsm = .tSym →
        let p := { s with sr := 0#2 ++ s.sr.extractLsb' 0 14 }
        exec .terminator s = .next (edge p s.pins { beforeAction p s.pins with
          prevWb := false, sr := s.sr.extractLsb' 0 14 ++ 0#2, slot := s.slot + 1#4, firstSym := false,
          havePrev := true, fsm := .unpack }))

/-! ## Characters -/

/-- `45_cycle_fsm.md` R233, `41_char_index.md` R130: each of the 40 characters, letters in both cases, and
the sentinel value, held in IDLE: taken normalised, the search starts at index 0; while a failed message
is discarded it is dropped. -/
def Obligations.CharacterInIdleIsTaken : Prop :=
  ∀ r ∈ (Instr.sentinel, 0x00#8, 0x00#8, 40, 0x0000#16) :: characterTable, ∀ s : State,
    supported s.cfg = true → s.pins.rst = false → s.fsm = .idle →
    let p := { s with holdValid := true, holdChar := r.2.1 }
    (s.skip = false → exec r.1 s = .next (edge p s.pins { beforeAction p s.pins with
        holdValid := false, curChar := r.2.2.1, curLast := s.holdLast, idx := 0#6, fsm := .scan }))
    ∧ (s.skip = true → exec r.1 s = .next (edge p s.pins { beforeAction p s.pins with
        holdValid := false, fsm := if s.holdLast then .done else .idle }))

/-- `46_char_table.md` R400 to R439, `45_cycle_fsm.md` R234, `41_char_index.md` R139: each of the 40 characters
in SCAN under the spec's tables. Before its ordinal the search goes on; at its ordinal its record is
loaded and `LOOKUP` shows the match. -/
def Obligations.CharacterInScanFindsItsRecord : Prop :=
  ∀ r ∈ characterTable, ∀ s : State, s.cfg = specConfig → s.pins.rst = false → s.fsm = .scan →
    let p := { s with curChar := r.2.2.1 }
    (s.idx.toNat < r.2.2.2.1 → exec r.1 s = .next (edge p s.pins { beforeAction p s.pins with
        idx := BitVec.ofNat 6 (s.idx.toNat + 1) }))
    ∧ (s.idx.toNat = r.2.2.2.1 → exec r.1 s = .next (edge p s.pins { beforeAction p s.pins with
        lkChar := r.2.2.1, lkFound := true, lkIdx := BitVec.ofNat 6 r.2.2.2.1, sr := r.2.2.2.2, slot := 0#4,
        firstSym := true, fsm := .unpack }))

/-- `46_char_table.md` R440, `41_char_index.md` R134, `60_exceptions.md` R277, R278: the sentinel value as a
character in SCAN: no entry before index 40 matches it, and at index 40 it is UnknownCharacter, which
fails the message in strict mode only. -/
def Obligations.SentinelValueIsUnknown : Prop :=
  ∀ s : State, s.cfg = specConfig → s.pins.rst = false → s.fsm = .scan →
    let p := { s with curChar := 0x00#8 }
    (s.idx.toNat < 40 → exec .sentinel s = .next (edge p s.pins { beforeAction p s.pins with
        idx := BitVec.ofNat 6 (s.idx.toNat + 1) }))
    ∧ (s.idx.toNat = 40 → s.lenient = false → exec .sentinel s = .next (edge p s.pins { beforeAction p s.pins with
        lkChar := 0x00#8, lkFound := false, lkIdx := 40#6, unk := true, errMsg := true, skip := true,
        fsm := if s.curLast then .done else .idle }))
    ∧ (s.idx.toNat = 40 → s.lenient = true → exec .sentinel s = .next (edge p s.pins { beforeAction p s.pins with
        lkChar := 0x00#8, lkFound := false, lkIdx := 40#6, unk := true,
        fsm := if s.curLast then .done else .idle }))

/-- `10_state.md` R21, `42_encoder.md` R160: a character handed over while another one is unpacked, timed or
its message closed waits in the holding register, as given. -/
def Obligations.CharacterWaitsWhileTheCoreIsBusy : Prop :=
  ∀ r ∈ (Instr.sentinel, 0x00#8, 0x00#8, 40, 0x0000#16) :: characterTable, ∀ s : State,
    Inv s → keepsMessage s.pins = true → s.fsm ≠ .idle → s.fsm ≠ .scan →
    ∃ t, exec r.1 s = .next t ∧ t.holdValid = true ∧ t.holdChar = r.2.1 ∧ t.holdLast = s.holdLast
      ∧ t.curChar = s.curChar ∧ t.curLast = s.curLast ∧ t.idx = s.idx

/-! ## Host operations

Each of them is compared with the same cycle without it: `t` is what the core does anyway. -/

/-- `44_host_ops.md` R202 to R204, R211: PUTC and PUTC.L. With `in_ready = 1` the character is stored as
given (ABORT in the same cycle discards it); with `in_ready = 0` the cycle is as if nothing was offered. -/
def Obligations.PutcTransfersWhenReady : Prop :=
  ∀ (last : Bool) (c : Byte) (s : State), Inv s → s.pins.rst = false →
    ∃ t, cycleWith s { s.pins with inValid := false } = .next t
      ∧ exec (.putc last c) s = .next
          (if s.holdValid = false ∧ s.fatal = false then
            { t with holdValid := !aborts s.pins, holdChar := c, holdLast := last }
          else t)

/-- `44_host_ops.md` R209, `10_state.md` R40: WR UNIT changes `UNIT` and nothing else of the cycle, so an event
loaded in it has the old unit. -/
def Obligations.WriteUnitSetsUnitOnly : Prop :=
  ∀ (v : Word16) (s : State), Inv s → s.pins.rst = false →
    ∃ t, cycleWith s { s.pins with regWe := false, regAddr := 0#2 } = .next t ∧ t.unit = s.unit
      ∧ exec (.wrUnit v) s = .next { t with unit := v }

/-- `44_host_ops.md` R210, R211: WR CTRL sets the mode from bit 0; with bit 1 it cancels the message as well,
overriding the cycle; bits 15:2 are ignored. -/
def Obligations.WriteCtrlSetsModeAndAborts : Prop :=
  ∀ (v : Word16) (s : State), Inv s → s.pins.rst = false →
    ∃ t, cycleWith s { s.pins with regWe := false, regAddr := 1#2 } = .next t ∧ t.lenient = s.lenient
      ∧ exec (.wrCtrl v) s = .next
          (if v.getLsbD 1 then
            { t with lenient := v.getLsbD 0, fsm := .idle, holdValid := false, havePrev := false,
                     prevWb := false, skip := false, errMsg := false, cnt := 0#19, evStb := false }
          else { t with lenient := v.getLsbD 0 })

/-- `44_host_ops.md` R212, `10_state.md` R36: WR STATUS clears `unk` when bit 1 is written and the cycle does
not set it; the other bits are ignored. -/
def Obligations.WriteStatusClearsUnk : Prop :=
  ∀ (v : Word16) (s : State), Inv s → s.pins.rst = false →
    ∃ t, cycleWith s { s.pins with regWe := false, regAddr := 2#2 } = .next t
      ∧ exec (.wrStatus v) s = .next
          { t with unk := if v.getLsbD 1 = true
                      ∧ ¬ (s.fsm = .scan ∧ s.cfg.charRom.read s.idx.toNat = some s.cfg.sentinel)
                    then false else t.unk }

/-- `44_host_ops.md` R213: WR LOOKUP has no effect at all. -/
def Obligations.WriteLookupHasNoEffect : Prop :=
  ∀ (v : Word16) (s : State), Inv s →
    ∃ t, cycleWith s { s.pins with regWe := false, regAddr := 3#2 } = .next t
      ∧ exec (.wrLookup v) s = .next t

/-- `30_encoding.md` R92, `44_host_ops.md` R214: reserved data bits are ignored. Two writes of CTRL that
agree in bits 0 and 1, two of STATUS that agree in bit 1, and any two of LOOKUP do the same. -/
def Obligations.ReservedWriteBitsAreIgnored : Prop :=
  ∀ (v w : Word16) (s : State),
    (v.getLsbD 0 = w.getLsbD 0 → v.getLsbD 1 = w.getLsbD 1 → exec (.wrCtrl v) s = exec (.wrCtrl w) s)
    ∧ (v.getLsbD 1 = w.getLsbD 1 → exec (.wrStatus v) s = exec (.wrStatus w) s)
    ∧ exec (.wrLookup v) s = exec (.wrLookup w) s

/-- `44_host_ops.md` R215, R216: RD UNIT and RD CTRL show the register on `reg_rdata` of the cycle, in a
write cycle the old value, and have no side effect: compared with any other address in a cycle without a
register write, nothing but `reg_rdata` differs. After reset they read 1 and 0. -/
def Obligations.ReadUnitAndCtrlShowTheRegisters : Prop :=
  (∀ (a : RegAddr) (s : State), Inv s →
    (s.pins.regWe = false → ∃ t, cycleWith s { s.pins with regAddr := a } = .next t
      ∧ exec .rdUnit s = .next { t with out := { t.out with regRdata := s.unit } }
      ∧ exec .rdCtrl s = .next { t with out := { t.out with regRdata := if s.lenient then 1#16 else 0#16 } })
    ∧ (∃ u, exec .rdUnit s = .next u ∧ u.out.regRdata = s.unit)
    ∧ (∃ u, exec .rdCtrl s = .next u ∧ u.out.regRdata = if s.lenient then 1#16 else 0#16))
  ∧ regRead State.reset 0#2 = 0x0001#16 ∧ regRead State.reset 1#2 = 0x0000#16

/-- `44_host_ops.md` R217, R208, `10_state.md` R42: RD STATUS shows BUSY, UNK, FATAL and SKIP in bits 0 to 3,
bits 15:4 zero, in a write cycle those before the write, and has no side effect: in particular it does
not clear `unk`. -/
def Obligations.ReadStatusShowsTheFlags : Prop :=
  ∀ (a : RegAddr) (s : State), Inv s →
    ∃ u v, exec .rdStatus s = .next u ∧ u.out.regRdata = v
      ∧ (v.getLsbD 0 = true ↔ s.fsm ≠ .idle ∨ s.holdValid = true)
      ∧ v.getLsbD 1 = s.unk ∧ v.getLsbD 2 = s.fatal ∧ v.getLsbD 3 = s.skip ∧ v.toNat < 16
      ∧ (s.pins.regWe = false → ∃ t, cycleWith s { s.pins with regAddr := a } = .next t
          ∧ u = { t with out := { t.out with regRdata := v } })

/-- `44_host_ops.md` R218, R208, `10_state.md` R43: RD LOOKUP shows the last search: character in bits 15:8,
found in bit 7, bit 6 zero, index in bits 5:0, in every cycle with or without a write, and has no side
effect; with the rule's three examples. -/
def Obligations.ReadLookupShowsTheLastSearch : Prop :=
  (∀ (a : RegAddr) (s : State), Inv s →
    ∃ u v, exec .rdLookup s = .next u ∧ u.out.regRdata = v
      ∧ v.toNat = s.lkChar.toNat * 256 + (if s.lkFound then 128 else 0) + s.lkIdx.toNat
      ∧ (s.pins.regWe = false → ∃ t, cycleWith s { s.pins with regAddr := a } = .next t
          ∧ u = { t with out := { t.out with regRdata := v } }))
  ∧ regRead State.reset 3#2 = 0x0000#16
  ∧ regRead { State.reset with lkChar := 0x53#8, lkFound := true, lkIdx := 28#6 } 3#2 = 0x539C#16
  ∧ regRead { State.reset with lkChar := 0x23#8, lkFound := false, lkIdx := 40#6 } 3#2 = 0x2328#16

/-! ## Whole-machine properties -/

/-- `10_state.md` R47 at reset. -/
def Obligations.InvariantsHoldAtReset : Prop := Inv State.reset

/-- `10_state.md` R47, `45_cycle_fsm.md` R250: every step keeps the invariants (a) to (j), from every state
that meets them, whatever the host drives. -/
def Obligations.StepKeepsTheInvariants : Prop :=
  ∀ s t : State, Inv s → step s = .next t → Inv t

/-- `45_cycle_fsm.md` R250: in a state that meets the invariants a next state always exists: no fault, no
refusal, no ROM address outside the tables. -/
def Obligations.StepIsTotalUnderTheInvariants : Prop :=
  ∀ s : State, Inv s → ∃ t, step s = .next t

/-- `20_memory.md` R61, `10_state.md` R37: no instruction changes the configuration, so neither ROM; and
`fatal` changes only at reset. -/
def Obligations.NoInstructionWritesTheTables : Prop :=
  ∀ (i : Instr) (s t : State), exec i s = .next t →
    t.cfg = s.cfg ∧ (s.pins.rst = false → t.fatal = s.fatal)

/-- `60_exceptions.md` R283: the fatal core. From an idle state with `fatal = 1`, as long as the host does not
reset, after any number of cycles the core is idle, holds nothing, has emitted no event and no `done`
and has taken no character. -/
def Obligations.FatalCoreNeverWorks : Prop :=
  ∀ (n : Nat) (s : State), Inv s → s.fatal = true → (∀ k, k < n → (s.pinsAt k).rst = false) →
    ∃ t, runTraces n s = some (t, .none) ∧ t.fsm = .idle ∧ t.holdValid = false
      ∧ t.fatal = true ∧ inReady t = false ∧ keyOut t = false

/-- `10_state.md` R36, `60_exceptions.md` R280: `unk` once set is cleared only by reset or by a host write of 1
to `STATUS[1]`; a search that reaches the sentinel sets it, in either mode and against a write of the same
cycle, and nothing else does. It shows as `STATUS[1]` and is 0 at reset. -/
def Obligations.UnkChangesOnlyBySearchWriteOrReset : Prop :=
  (∀ s t : State, step s = .next t →
    (s.unk = true → t.unk = false →
      s.pins.rst = true ∨ (s.pins.regWe = true ∧ s.pins.regAddr = 2#2 ∧ s.pins.regWdata.getLsbD 1 = true))
    ∧ (s.unk = false → t.unk = true →
        s.pins.rst = false ∧ s.fsm = .scan ∧ s.cfg.charRom.read s.idx.toNat = some s.cfg.sentinel)
    ∧ (s.pins.rst = false → s.fsm = .scan → s.cfg.charRom.read s.idx.toNat = some s.cfg.sentinel →
        t.unk = true)
    ∧ (s.pins.rst = false →
        s.pins.regWe = true → s.pins.regAddr = 2#2 → s.pins.regWdata.getLsbD 1 = true →
        ¬ (s.fsm = .scan ∧ s.cfg.charRom.read s.idx.toNat = some s.cfg.sentinel) → t.unk = false)
    ∧ (s.pins.rst = true → t.unk = false))
  ∧ (∀ s : State, (regRead s 2#2).getLsbD 1 = s.unk)
  ∧ State.reset.unk = false

/-- `10_state.md` R20, R40, R41, R43, `44_host_ops.md` R207: `UNIT` and `CTRL.LENIENT` change only by their own
register write or reset; `LOOKUP` only at the end of a search or by reset. -/
def Obligations.RegistersHaveOneWriter : Prop :=
  ∀ s t : State, step s = .next t → s.pins.rst = false →
    (t.unit = if s.pins.regWe = true ∧ s.pins.regAddr = 0#2 then s.pins.regWdata else s.unit)
    ∧ (t.lenient = if s.pins.regWe = true ∧ s.pins.regAddr = 1#2 then s.pins.regWdata.getLsbD 0 else s.lenient)
    ∧ ((t.lkChar, t.lkFound, t.lkIdx) ≠ (s.lkChar, s.lkFound, s.lkIdx) → s.fsm = .scan
        ∧ t.lkChar = s.curChar ∧ t.lkIdx = s.idx
        ∧ (t.lkFound = true ↔ s.cfg.charRom.read s.idx.toNat ≠ some s.cfg.sentinel))

/-- `10_state.md` R27, R28, `43_timing.md` R181, R184, `45_cycle_fsm.md` R262 (e): the event registers change only
at a load; a strobe follows a load at once, and the loaded ticks are the units times the `UNIT` of the
load's cycle. -/
def Obligations.StrobeMarksEveryLoad : Prop :=
  ∀ s t : State, Inv s → step s = .next t → keepsMessage s.pins = true →
    (t.evStb = false → t.evOn = s.evOn ∧ t.evUnits = s.evUnits ∧ t.evTicks = s.evTicks)
    ∧ (t.evStb = true → t.evTicks.toNat = t.evUnits.toNat * s.unit.toNat ∧ t.cnt = t.evTicks
        ∧ (s.fsm = .unpack ∨ s.fsm = .tGap))

/-- `43_timing.md` R183, `45_cycle_fsm.md` R232: `key` is high exactly while a DOT or DASH event counts, and a
cycle after `key` was low it can be high only if an on-event was loaded in between. -/
def Obligations.KeyRisesOnlyWithAnOnEvent : Prop :=
  ∀ s t : State, Inv s → step s = .next t →
    t.out.key = (decide (s.fsm = .tSym) && s.evOn && decide (s.cnt ≠ 0#19))
    ∧ (keyOut s = false → keyOut t = true → t.evStb = true ∧ t.evOn = true ∧ t.cnt = t.evTicks)

/-- `41_char_index.md` R142, `70_reset_and_hazards.md` R320: a search that starts at index 0 and is neither
aborted nor reset takes `i + 1` SCAN cycles to load the record at the first matching ordinal `i`, and
`N_CHARS + 1` SCAN cycles (41 with the spec's tables) to report UnknownCharacter. -/
def Obligations.SearchTakesItsCycles : Prop :=
  (∀ (s : State) (n : Nat), Inv s → s.fsm = .scan → s.idx = 0#6 → normalize s.curChar = s.curChar →
    (indexOf s.cfg s.curChar = .ok n → (∀ k, k < n + 1 → keepsMessage (s.pinsAt k) = true) →
      (∀ k, k < n + 1 → ∃ u, runSteps k s = some u ∧ u.fsm = .scan)
      ∧ ∃ t w, runSteps (n + 1) s = some t ∧ recWord s.cfg n = some w ∧ t.fsm = .unpack ∧ t.sr = w
        ∧ t.slot = 0#4 ∧ t.firstSym = true ∧ t.lkChar = s.curChar ∧ t.lkFound = true ∧ t.lkIdx.toNat = n
        ∧ t.havePrev = s.havePrev ∧ t.prevWb = s.prevWb ∧ t.curLast = s.curLast)
    ∧ (known s.cfg s.curChar = false → (∀ k, k < s.cfg.nChars + 1 → keepsMessage (s.pinsAt k) = true) →
      (∀ k, k < s.cfg.nChars + 1 → ∃ u, runSteps k s = some u ∧ u.fsm = .scan)
      ∧ ∃ t, runSteps (s.cfg.nChars + 1) s = some t ∧ t.fsm = (if s.curLast then .done else .idle)
        ∧ t.unk = true ∧ t.lkChar = s.curChar ∧ t.lkFound = false ∧ t.lkIdx.toNat = s.cfg.nChars
        ∧ t.havePrev = s.havePrev ∧ t.prevWb = s.prevWb))
  ∧ specConfig.nChars + 1 = 41

/-- `43_timing.md` R182, R183, `45_cycle_fsm.md` R255 (c), `70_reset_and_hazards.md` R310: an event that still
counts `cnt` ticks stays through any number of cycles with fewer ticks than that, counted down by exactly
these ticks, with `key` unchanged; without ticks it stays for ever. -/
def Obligations.EventWaitsForItsTicks : Prop :=
  ∀ (n : Nat) (s : State), supported s.cfg = true → (s.fsm = .tGap ∨ s.fsm = .tSym) →
    (∀ k, k < n → keepsMessage (s.pinsAt k) = true) → ticksIn s n < s.cnt.toNat →
    ∃ t, runSteps n s = some t ∧ t.fsm = s.fsm ∧ t.cnt.toNat = s.cnt.toNat - ticksIn s n
      ∧ t.sr = s.sr ∧ t.slot = s.slot ∧ t.evOn = s.evOn ∧ keyOut t = keyOut s

/-- `40_record_codec.md` R123, `45_cycle_fsm.md` R262, `43_timing.md` R185: REFINEMENT of one record. From the
first UNPACK cycle of a loaded record, through any cycles without reset and ABORT up to the end of the
character, the event trace is that of `Unpack` of the record with the gaps `ToEvents` gives them. -/
def Obligations.RecordEmitsItsUnpackedEvents : Prop :=
  ∀ (n : Nat) (s t : State) (tr : Traces), Inv s → s.fsm = .unpack → s.slot = 0#4 → s.firstSym = true →
    (∀ k, k < n → keepsMessage (s.pinsAt k) = true) →
    (∀ k u, k < n → runSteps k s = some u → u.fsm = .unpack ∨ u.fsm = .tGap ∨ u.fsm = .tSym) →
    runTraces n s = some (t, tr) → (t.fsm = .idle ∨ t.fsm = .done) →
    (tr.events, t.havePrev, t.prevWb) = groupEvents s.cfg.wbAbsorb (unpack s.sr) true s.havePrev s.prevWb

/-- `45_cycle_fsm.md` R262 (a) to (d), (f), (g) with a constant mode, `42_encoder.md` R161, R162: REFINEMENT of
the functional layer by the cycle layer. From any idle state in which no message is open, through any
number of cycles in which the host neither resets nor writes CTRL, whenever the core is idle and empty
again the event trace and the done trace are those that `EncodeText` and `ToEvents` give the messages of
the input trace (of a failed strict message the part before the first unknown character); in the one
time order of both, the events of each message come first and its `done` pulse next, before the events
of the message after it; and the run never stops. -/
def Obligations.CoreRefinesTheFunctionalLayer : Prop :=
  ∀ (n : Nat) (s : State), Inv s → s.fatal = false → s.quiescent = true → s.noMessage = true →
    (∀ k, k < n → (s.pinsAt k).rst = false ∧ writesReg (s.pinsAt k) 1#2 = false) →
    ∃ t tr, runTraces n s = some (t, tr)
      ∧ (t.quiescent = true →
          tr.events = expectedEvents s.cfg (Mode.ofLenient s.lenient) tr.inputs
          ∧ tr.dones = expectedDones s.cfg (Mode.ofLenient s.lenient) tr.inputs
          ∧ tr.marks = expectedMarks s.cfg (Mode.ofLenient s.lenient) tr.inputs)

/-- `45_cycle_fsm.md` R262 (a), (b), (f), (g), `42_encoder.md` R163: the same REFINEMENT with the mode of each
failed lookup, whatever the host writes to CTRL but ABORT. At any time, messages handed over back to back
or not, the events and `done` pulses so far, in one time order, are a beginning of those R262 gives the
messages of the input trace, each failed lookup with the value of `lenient` in its cycle; and whenever the
core is idle and empty they are all of them. -/
def Obligations.CoreFollowsTheModeOfEachFailedLookup : Prop :=
  ∀ (n : Nat) (s : State), Inv s → s.fatal = false → s.quiescent = true → s.noMessage = true →
    (∀ k, k < n → keepsMessage (s.pinsAt k) = true) →
    ∃ t tr, runTraces n s = some (t, tr)
      ∧ tr.events = Mark.events tr.marks ∧ tr.dones = Mark.dones tr.marks
      ∧ tr.marks <+: resolvedMarks s.cfg tr.inputs tr.failures
      ∧ (t.quiescent = true → tr.marks = resolvedMarks s.cfg tr.inputs tr.failures)

/-- `45_cycle_fsm.md` R260, R262 (e), `43_timing.md` R181: each entry of the tick trace is the event's units
times the value of `UNIT` in the cycle before its strobe cycle; whatever the host does, through any number
of cycles. (The last load may have its strobe only in the cycle after the run.) -/
def Obligations.TickTraceIsUnitsTimesUnit : Prop :=
  ∀ (n : Nat) (s : State), Inv s → s.evStb = false →
    ∃ t tr, runTraces n s = some (t, tr)
      ∧ tr.ticks.length = tr.events.length
      ∧ tr.loadUnits.length = tr.events.length + (if t.evStb then 1 else 0)
      ∧ tr.ticks.map BitVec.toNat
          = List.zipWith (fun e u => e.units.toNat * u.toNat) tr.events tr.loadUnits
end

