-- ==== Sys2Proof/Laws/State.lean ====
section
/-! SUPPORT. One lemma per field per state update: what each named update of Machine/Ops.lean and
Machine/Cycle.lean leaves in each field of the state. -/

namespace Sys2Proof.Machine

/-! ### advance -/

@[simp] theorem advance_cfg (s : State) (p : Inputs) (t : State) : (advance s p t).cfg = t.cfg := rfl
@[simp] theorem advance_fsm (s : State) (p : Inputs) (t : State) : (advance s p t).fsm = t.fsm := rfl
@[simp] theorem advance_holdValid (s : State) (p : Inputs) (t : State) : (advance s p t).holdValid = t.holdValid := rfl
@[simp] theorem advance_holdChar (s : State) (p : Inputs) (t : State) : (advance s p t).holdChar = t.holdChar := rfl
@[simp] theorem advance_holdLast (s : State) (p : Inputs) (t : State) : (advance s p t).holdLast = t.holdLast := rfl
@[simp] theorem advance_curChar (s : State) (p : Inputs) (t : State) : (advance s p t).curChar = t.curChar := rfl
@[simp] theorem advance_curLast (s : State) (p : Inputs) (t : State) : (advance s p t).curLast = t.curLast := rfl
@[simp] theorem advance_idx (s : State) (p : Inputs) (t : State) : (advance s p t).idx = t.idx := rfl
@[simp] theorem advance_sr (s : State) (p : Inputs) (t : State) : (advance s p t).sr = t.sr := rfl
@[simp] theorem advance_slot (s : State) (p : Inputs) (t : State) : (advance s p t).slot = t.slot := rfl
@[simp] theorem advance_cnt (s : State) (p : Inputs) (t : State) : (advance s p t).cnt = t.cnt := rfl
@[simp] theorem advance_evOn (s : State) (p : Inputs) (t : State) : (advance s p t).evOn = t.evOn := rfl
@[simp] theorem advance_evUnits (s : State) (p : Inputs) (t : State) : (advance s p t).evUnits = t.evUnits := rfl
@[simp] theorem advance_evTicks (s : State) (p : Inputs) (t : State) : (advance s p t).evTicks = t.evTicks := rfl
@[simp] theorem advance_evStb (s : State) (p : Inputs) (t : State) : (advance s p t).evStb = t.evStb := rfl
@[simp] theorem advance_firstSym (s : State) (p : Inputs) (t : State) : (advance s p t).firstSym = t.firstSym := rfl
@[simp] theorem advance_havePrev (s : State) (p : Inputs) (t : State) : (advance s p t).havePrev = t.havePrev := rfl
@[simp] theorem advance_prevWb (s : State) (p : Inputs) (t : State) : (advance s p t).prevWb = t.prevWb := rfl
@[simp] theorem advance_skip (s : State) (p : Inputs) (t : State) : (advance s p t).skip = t.skip := rfl
@[simp] theorem advance_errMsg (s : State) (p : Inputs) (t : State) : (advance s p t).errMsg = t.errMsg := rfl
@[simp] theorem advance_unk (s : State) (p : Inputs) (t : State) : (advance s p t).unk = t.unk := rfl
@[simp] theorem advance_fatal (s : State) (p : Inputs) (t : State) : (advance s p t).fatal = t.fatal := rfl
@[simp] theorem advance_unit (s : State) (p : Inputs) (t : State) : (advance s p t).unit = t.unit := rfl
@[simp] theorem advance_lenient (s : State) (p : Inputs) (t : State) : (advance s p t).lenient = t.lenient := rfl
@[simp] theorem advance_lkChar (s : State) (p : Inputs) (t : State) : (advance s p t).lkChar = t.lkChar := rfl
@[simp] theorem advance_lkFound (s : State) (p : Inputs) (t : State) : (advance s p t).lkFound = t.lkFound := rfl
@[simp] theorem advance_lkIdx (s : State) (p : Inputs) (t : State) : (advance s p t).lkIdx = t.lkIdx := rfl
@[simp] theorem advance_host (s : State) (p : Inputs) (t : State) : (advance s p t).host = s.host.tail := rfl
@[simp] theorem advance_now (s : State) (p : Inputs) (t : State) : (advance s p t).now = s.now + 1 := rfl
@[simp] theorem advance_out (s : State) (p : Inputs) (t : State) : (advance s p t).out = outputs s p.regAddr := rfl


/-! ### loadEvent -/

@[simp] theorem loadEvent_cfg (s : State) (e : Event) (t : State) : (loadEvent s e t).cfg = t.cfg := rfl
@[simp] theorem loadEvent_fsm (s : State) (e : Event) (t : State) : (loadEvent s e t).fsm = t.fsm := rfl
@[simp] theorem loadEvent_holdValid (s : State) (e : Event) (t : State) : (loadEvent s e t).holdValid = t.holdValid := rfl
@[simp] theorem loadEvent_holdChar (s : State) (e : Event) (t : State) : (loadEvent s e t).holdChar = t.holdChar := rfl
@[simp] theorem loadEvent_holdLast (s : State) (e : Event) (t : State) : (loadEvent s e t).holdLast = t.holdLast := rfl
@[simp] theorem loadEvent_curChar (s : State) (e : Event) (t : State) : (loadEvent s e t).curChar = t.curChar := rfl
@[simp] theorem loadEvent_curLast (s : State) (e : Event) (t : State) : (loadEvent s e t).curLast = t.curLast := rfl
@[simp] theorem loadEvent_idx (s : State) (e : Event) (t : State) : (loadEvent s e t).idx = t.idx := rfl
@[simp] theorem loadEvent_sr (s : State) (e : Event) (t : State) : (loadEvent s e t).sr = t.sr := rfl
@[simp] theorem loadEvent_slot (s : State) (e : Event) (t : State) : (loadEvent s e t).slot = t.slot := rfl
@[simp] theorem loadEvent_cnt (s : State) (e : Event) (t : State) : (loadEvent s e t).cnt = ratioTicks e.units s.unit := rfl
@[simp] theorem loadEvent_evOn (s : State) (e : Event) (t : State) : (loadEvent s e t).evOn = e.on := rfl
@[simp] theorem loadEvent_evUnits (s : State) (e : Event) (t : State) : (loadEvent s e t).evUnits = e.units := rfl
@[simp] theorem loadEvent_evTicks (s : State) (e : Event) (t : State) : (loadEvent s e t).evTicks = ratioTicks e.units s.unit := rfl
@[simp] theorem loadEvent_evStb (s : State) (e : Event) (t : State) : (loadEvent s e t).evStb = true := rfl
@[simp] theorem loadEvent_firstSym (s : State) (e : Event) (t : State) : (loadEvent s e t).firstSym = t.firstSym := rfl
@[simp] theorem loadEvent_havePrev (s : State) (e : Event) (t : State) : (loadEvent s e t).havePrev = t.havePrev := rfl
@[simp] theorem loadEvent_prevWb (s : State) (e : Event) (t : State) : (loadEvent s e t).prevWb = t.prevWb := rfl
@[simp] theorem loadEvent_skip (s : State) (e : Event) (t : State) : (loadEvent s e t).skip = t.skip := rfl
@[simp] theorem loadEvent_errMsg (s : State) (e : Event) (t : State) : (loadEvent s e t).errMsg = t.errMsg := rfl
@[simp] theorem loadEvent_unk (s : State) (e : Event) (t : State) : (loadEvent s e t).unk = t.unk := rfl
@[simp] theorem loadEvent_fatal (s : State) (e : Event) (t : State) : (loadEvent s e t).fatal = t.fatal := rfl
@[simp] theorem loadEvent_unit (s : State) (e : Event) (t : State) : (loadEvent s e t).unit = t.unit := rfl
@[simp] theorem loadEvent_lenient (s : State) (e : Event) (t : State) : (loadEvent s e t).lenient = t.lenient := rfl
@[simp] theorem loadEvent_lkChar (s : State) (e : Event) (t : State) : (loadEvent s e t).lkChar = t.lkChar := rfl
@[simp] theorem loadEvent_lkFound (s : State) (e : Event) (t : State) : (loadEvent s e t).lkFound = t.lkFound := rfl
@[simp] theorem loadEvent_lkIdx (s : State) (e : Event) (t : State) : (loadEvent s e t).lkIdx = t.lkIdx := rfl
@[simp] theorem loadEvent_host (s : State) (e : Event) (t : State) : (loadEvent s e t).host = t.host := rfl
@[simp] theorem loadEvent_now (s : State) (e : Event) (t : State) : (loadEvent s e t).now = t.now := rfl
@[simp] theorem loadEvent_out (s : State) (e : Event) (t : State) : (loadEvent s e t).out = t.out := rfl


/-! ### endCharacter -/

@[simp] theorem endCharacter_cfg (s t : State) : (endCharacter s t).cfg = t.cfg := rfl
@[simp] theorem endCharacter_fsm (s t : State) : (endCharacter s t).fsm = if s.curLast then .done else .idle := rfl
@[simp] theorem endCharacter_holdValid (s t : State) : (endCharacter s t).holdValid = t.holdValid := rfl
@[simp] theorem endCharacter_holdChar (s t : State) : (endCharacter s t).holdChar = t.holdChar := rfl
@[simp] theorem endCharacter_holdLast (s t : State) : (endCharacter s t).holdLast = t.holdLast := rfl
@[simp] theorem endCharacter_curChar (s t : State) : (endCharacter s t).curChar = t.curChar := rfl
@[simp] theorem endCharacter_curLast (s t : State) : (endCharacter s t).curLast = t.curLast := rfl
@[simp] theorem endCharacter_idx (s t : State) : (endCharacter s t).idx = t.idx := rfl
@[simp] theorem endCharacter_sr (s t : State) : (endCharacter s t).sr = t.sr := rfl
@[simp] theorem endCharacter_slot (s t : State) : (endCharacter s t).slot = t.slot := rfl
@[simp] theorem endCharacter_cnt (s t : State) : (endCharacter s t).cnt = t.cnt := rfl
@[simp] theorem endCharacter_evOn (s t : State) : (endCharacter s t).evOn = t.evOn := rfl
@[simp] theorem endCharacter_evUnits (s t : State) : (endCharacter s t).evUnits = t.evUnits := rfl
@[simp] theorem endCharacter_evTicks (s t : State) : (endCharacter s t).evTicks = t.evTicks := rfl
@[simp] theorem endCharacter_evStb (s t : State) : (endCharacter s t).evStb = t.evStb := rfl
@[simp] theorem endCharacter_firstSym (s t : State) : (endCharacter s t).firstSym = t.firstSym := rfl
@[simp] theorem endCharacter_havePrev (s t : State) : (endCharacter s t).havePrev = t.havePrev := rfl
@[simp] theorem endCharacter_prevWb (s t : State) : (endCharacter s t).prevWb = t.prevWb := rfl
@[simp] theorem endCharacter_skip (s t : State) : (endCharacter s t).skip = t.skip := rfl
@[simp] theorem endCharacter_errMsg (s t : State) : (endCharacter s t).errMsg = t.errMsg := rfl
@[simp] theorem endCharacter_unk (s t : State) : (endCharacter s t).unk = t.unk := rfl
@[simp] theorem endCharacter_fatal (s t : State) : (endCharacter s t).fatal = t.fatal := rfl
@[simp] theorem endCharacter_unit (s t : State) : (endCharacter s t).unit = t.unit := rfl
@[simp] theorem endCharacter_lenient (s t : State) : (endCharacter s t).lenient = t.lenient := rfl
@[simp] theorem endCharacter_lkChar (s t : State) : (endCharacter s t).lkChar = t.lkChar := rfl
@[simp] theorem endCharacter_lkFound (s t : State) : (endCharacter s t).lkFound = t.lkFound := rfl
@[simp] theorem endCharacter_lkIdx (s t : State) : (endCharacter s t).lkIdx = t.lkIdx := rfl
@[simp] theorem endCharacter_host (s t : State) : (endCharacter s t).host = t.host := rfl
@[simp] theorem endCharacter_now (s t : State) : (endCharacter s t).now = t.now := rfl
@[simp] theorem endCharacter_out (s t : State) : (endCharacter s t).out = t.out := rfl


/-! ### setLookup -/

@[simp] theorem setLookup_cfg (s : State) (b : Bool) (t : State) : (setLookup s b t).cfg = t.cfg := rfl
@[simp] theorem setLookup_fsm (s : State) (b : Bool) (t : State) : (setLookup s b t).fsm = t.fsm := rfl
@[simp] theorem setLookup_holdValid (s : State) (b : Bool) (t : State) : (setLookup s b t).holdValid = t.holdValid := rfl
@[simp] theorem setLookup_holdChar (s : State) (b : Bool) (t : State) : (setLookup s b t).holdChar = t.holdChar := rfl
@[simp] theorem setLookup_holdLast (s : State) (b : Bool) (t : State) : (setLookup s b t).holdLast = t.holdLast := rfl
@[simp] theorem setLookup_curChar (s : State) (b : Bool) (t : State) : (setLookup s b t).curChar = t.curChar := rfl
@[simp] theorem setLookup_curLast (s : State) (b : Bool) (t : State) : (setLookup s b t).curLast = t.curLast := rfl
@[simp] theorem setLookup_idx (s : State) (b : Bool) (t : State) : (setLookup s b t).idx = t.idx := rfl
@[simp] theorem setLookup_sr (s : State) (b : Bool) (t : State) : (setLookup s b t).sr = t.sr := rfl
@[simp] theorem setLookup_slot (s : State) (b : Bool) (t : State) : (setLookup s b t).slot = t.slot := rfl
@[simp] theorem setLookup_cnt (s : State) (b : Bool) (t : State) : (setLookup s b t).cnt = t.cnt := rfl
@[simp] theorem setLookup_evOn (s : State) (b : Bool) (t : State) : (setLookup s b t).evOn = t.evOn := rfl
@[simp] theorem setLookup_evUnits (s : State) (b : Bool) (t : State) : (setLookup s b t).evUnits = t.evUnits := rfl
@[simp] theorem setLookup_evTicks (s : State) (b : Bool) (t : State) : (setLookup s b t).evTicks = t.evTicks := rfl
@[simp] theorem setLookup_evStb (s : State) (b : Bool) (t : State) : (setLookup s b t).evStb = t.evStb := rfl
@[simp] theorem setLookup_firstSym (s : State) (b : Bool) (t : State) : (setLookup s b t).firstSym = t.firstSym := rfl
@[simp] theorem setLookup_havePrev (s : State) (b : Bool) (t : State) : (setLookup s b t).havePrev = t.havePrev := rfl
@[simp] theorem setLookup_prevWb (s : State) (b : Bool) (t : State) : (setLookup s b t).prevWb = t.prevWb := rfl
@[simp] theorem setLookup_skip (s : State) (b : Bool) (t : State) : (setLookup s b t).skip = t.skip := rfl
@[simp] theorem setLookup_errMsg (s : State) (b : Bool) (t : State) : (setLookup s b t).errMsg = t.errMsg := rfl
@[simp] theorem setLookup_unk (s : State) (b : Bool) (t : State) : (setLookup s b t).unk = t.unk := rfl
@[simp] theorem setLookup_fatal (s : State) (b : Bool) (t : State) : (setLookup s b t).fatal = t.fatal := rfl
@[simp] theorem setLookup_unit (s : State) (b : Bool) (t : State) : (setLookup s b t).unit = t.unit := rfl
@[simp] theorem setLookup_lenient (s : State) (b : Bool) (t : State) : (setLookup s b t).lenient = t.lenient := rfl
@[simp] theorem setLookup_lkChar (s : State) (b : Bool) (t : State) : (setLookup s b t).lkChar = s.curChar := rfl
@[simp] theorem setLookup_lkFound (s : State) (b : Bool) (t : State) : (setLookup s b t).lkFound = b := rfl
@[simp] theorem setLookup_lkIdx (s : State) (b : Bool) (t : State) : (setLookup s b t).lkIdx = s.idx := rfl
@[simp] theorem setLookup_host (s : State) (b : Bool) (t : State) : (setLookup s b t).host = t.host := rfl
@[simp] theorem setLookup_now (s : State) (b : Bool) (t : State) : (setLookup s b t).now = t.now := rfl
@[simp] theorem setLookup_out (s : State) (b : Bool) (t : State) : (setLookup s b t).out = t.out := rfl


/-! ### endMessage -/

@[simp] theorem endMessage_cfg (t : State) : (endMessage t).cfg = t.cfg := rfl
@[simp] theorem endMessage_fsm (t : State) : (endMessage t).fsm = .idle := rfl
@[simp] theorem endMessage_holdValid (t : State) : (endMessage t).holdValid = t.holdValid := rfl
@[simp] theorem endMessage_holdChar (t : State) : (endMessage t).holdChar = t.holdChar := rfl
@[simp] theorem endMessage_holdLast (t : State) : (endMessage t).holdLast = t.holdLast := rfl
@[simp] theorem endMessage_curChar (t : State) : (endMessage t).curChar = t.curChar := rfl
@[simp] theorem endMessage_curLast (t : State) : (endMessage t).curLast = t.curLast := rfl
@[simp] theorem endMessage_idx (t : State) : (endMessage t).idx = t.idx := rfl
@[simp] theorem endMessage_sr (t : State) : (endMessage t).sr = t.sr := rfl
@[simp] theorem endMessage_slot (t : State) : (endMessage t).slot = t.slot := rfl
@[simp] theorem endMessage_cnt (t : State) : (endMessage t).cnt = t.cnt := rfl
@[simp] theorem endMessage_evOn (t : State) : (endMessage t).evOn = t.evOn := rfl
@[simp] theorem endMessage_evUnits (t : State) : (endMessage t).evUnits = t.evUnits := rfl
@[simp] theorem endMessage_evTicks (t : State) : (endMessage t).evTicks = t.evTicks := rfl
@[simp] theorem endMessage_evStb (t : State) : (endMessage t).evStb = t.evStb := rfl
@[simp] theorem endMessage_firstSym (t : State) : (endMessage t).firstSym = t.firstSym := rfl
@[simp] theorem endMessage_havePrev (t : State) : (endMessage t).havePrev = false := rfl
@[simp] theorem endMessage_prevWb (t : State) : (endMessage t).prevWb = false := rfl
@[simp] theorem endMessage_skip (t : State) : (endMessage t).skip = false := rfl
@[simp] theorem endMessage_errMsg (t : State) : (endMessage t).errMsg = false := rfl
@[simp] theorem endMessage_unk (t : State) : (endMessage t).unk = t.unk := rfl
@[simp] theorem endMessage_fatal (t : State) : (endMessage t).fatal = t.fatal := rfl
@[simp] theorem endMessage_unit (t : State) : (endMessage t).unit = t.unit := rfl
@[simp] theorem endMessage_lenient (t : State) : (endMessage t).lenient = t.lenient := rfl
@[simp] theorem endMessage_lkChar (t : State) : (endMessage t).lkChar = t.lkChar := rfl
@[simp] theorem endMessage_lkFound (t : State) : (endMessage t).lkFound = t.lkFound := rfl
@[simp] theorem endMessage_lkIdx (t : State) : (endMessage t).lkIdx = t.lkIdx := rfl
@[simp] theorem endMessage_host (t : State) : (endMessage t).host = t.host := rfl
@[simp] theorem endMessage_now (t : State) : (endMessage t).now = t.now := rfl
@[simp] theorem endMessage_out (t : State) : (endMessage t).out = t.out := rfl


/-! ### loadRecord -/

@[simp] theorem loadRecord_cfg (w : Word16) (t : State) : (loadRecord w t).cfg = t.cfg := rfl
@[simp] theorem loadRecord_fsm (w : Word16) (t : State) : (loadRecord w t).fsm = .unpack := rfl
@[simp] theorem loadRecord_holdValid (w : Word16) (t : State) : (loadRecord w t).holdValid = t.holdValid := rfl
@[simp] theorem loadRecord_holdChar (w : Word16) (t : State) : (loadRecord w t).holdChar = t.holdChar := rfl
@[simp] theorem loadRecord_holdLast (w : Word16) (t : State) : (loadRecord w t).holdLast = t.holdLast := rfl
@[simp] theorem loadRecord_curChar (w : Word16) (t : State) : (loadRecord w t).curChar = t.curChar := rfl
@[simp] theorem loadRecord_curLast (w : Word16) (t : State) : (loadRecord w t).curLast = t.curLast := rfl
@[simp] theorem loadRecord_idx (w : Word16) (t : State) : (loadRecord w t).idx = t.idx := rfl
@[simp] theorem loadRecord_sr (w : Word16) (t : State) : (loadRecord w t).sr = w := rfl
@[simp] theorem loadRecord_slot (w : Word16) (t : State) : (loadRecord w t).slot = 0#4 := rfl
@[simp] theorem loadRecord_cnt (w : Word16) (t : State) : (loadRecord w t).cnt = t.cnt := rfl
@[simp] theorem loadRecord_evOn (w : Word16) (t : State) : (loadRecord w t).evOn = t.evOn := rfl
@[simp] theorem loadRecord_evUnits (w : Word16) (t : State) : (loadRecord w t).evUnits = t.evUnits := rfl
@[simp] theorem loadRecord_evTicks (w : Word16) (t : State) : (loadRecord w t).evTicks = t.evTicks := rfl
@[simp] theorem loadRecord_evStb (w : Word16) (t : State) : (loadRecord w t).evStb = t.evStb := rfl
@[simp] theorem loadRecord_firstSym (w : Word16) (t : State) : (loadRecord w t).firstSym = true := rfl
@[simp] theorem loadRecord_havePrev (w : Word16) (t : State) : (loadRecord w t).havePrev = t.havePrev := rfl
@[simp] theorem loadRecord_prevWb (w : Word16) (t : State) : (loadRecord w t).prevWb = t.prevWb := rfl
@[simp] theorem loadRecord_skip (w : Word16) (t : State) : (loadRecord w t).skip = t.skip := rfl
@[simp] theorem loadRecord_errMsg (w : Word16) (t : State) : (loadRecord w t).errMsg = t.errMsg := rfl
@[simp] theorem loadRecord_unk (w : Word16) (t : State) : (loadRecord w t).unk = t.unk := rfl
@[simp] theorem loadRecord_fatal (w : Word16) (t : State) : (loadRecord w t).fatal = t.fatal := rfl
@[simp] theorem loadRecord_unit (w : Word16) (t : State) : (loadRecord w t).unit = t.unit := rfl
@[simp] theorem loadRecord_lenient (w : Word16) (t : State) : (loadRecord w t).lenient = t.lenient := rfl
@[simp] theorem loadRecord_lkChar (w : Word16) (t : State) : (loadRecord w t).lkChar = t.lkChar := rfl
@[simp] theorem loadRecord_lkFound (w : Word16) (t : State) : (loadRecord w t).lkFound = t.lkFound := rfl
@[simp] theorem loadRecord_lkIdx (w : Word16) (t : State) : (loadRecord w t).lkIdx = t.lkIdx := rfl
@[simp] theorem loadRecord_host (w : Word16) (t : State) : (loadRecord w t).host = t.host := rfl
@[simp] theorem loadRecord_now (w : Word16) (t : State) : (loadRecord w t).now = t.now := rfl
@[simp] theorem loadRecord_out (w : Word16) (t : State) : (loadRecord w t).out = t.out := rfl


/-! ### abort -/

@[simp] theorem abort_cfg (t : State) : (abort t).cfg = t.cfg := rfl
@[simp] theorem abort_fsm (t : State) : (abort t).fsm = .idle := rfl
@[simp] theorem abort_holdValid (t : State) : (abort t).holdValid = false := rfl
@[simp] theorem abort_holdChar (t : State) : (abort t).holdChar = t.holdChar := rfl
@[simp] theorem abort_holdLast (t : State) : (abort t).holdLast = t.holdLast := rfl
@[simp] theorem abort_curChar (t : State) : (abort t).curChar = t.curChar := rfl
@[simp] theorem abort_curLast (t : State) : (abort t).curLast = t.curLast := rfl
@[simp] theorem abort_idx (t : State) : (abort t).idx = t.idx := rfl
@[simp] theorem abort_sr (t : State) : (abort t).sr = t.sr := rfl
@[simp] theorem abort_slot (t : State) : (abort t).slot = t.slot := rfl
@[simp] theorem abort_cnt (t : State) : (abort t).cnt = 0#19 := rfl
@[simp] theorem abort_evOn (t : State) : (abort t).evOn = t.evOn := rfl
@[simp] theorem abort_evUnits (t : State) : (abort t).evUnits = t.evUnits := rfl
@[simp] theorem abort_evTicks (t : State) : (abort t).evTicks = t.evTicks := rfl
@[simp] theorem abort_evStb (t : State) : (abort t).evStb = false := rfl
@[simp] theorem abort_firstSym (t : State) : (abort t).firstSym = t.firstSym := rfl
@[simp] theorem abort_havePrev (t : State) : (abort t).havePrev = false := rfl
@[simp] theorem abort_prevWb (t : State) : (abort t).prevWb = false := rfl
@[simp] theorem abort_skip (t : State) : (abort t).skip = false := rfl
@[simp] theorem abort_errMsg (t : State) : (abort t).errMsg = false := rfl
@[simp] theorem abort_unk (t : State) : (abort t).unk = t.unk := rfl
@[simp] theorem abort_fatal (t : State) : (abort t).fatal = t.fatal := rfl
@[simp] theorem abort_unit (t : State) : (abort t).unit = t.unit := rfl
@[simp] theorem abort_lenient (t : State) : (abort t).lenient = t.lenient := rfl
@[simp] theorem abort_lkChar (t : State) : (abort t).lkChar = t.lkChar := rfl
@[simp] theorem abort_lkFound (t : State) : (abort t).lkFound = t.lkFound := rfl
@[simp] theorem abort_lkIdx (t : State) : (abort t).lkIdx = t.lkIdx := rfl
@[simp] theorem abort_host (t : State) : (abort t).host = t.host := rfl
@[simp] theorem abort_now (t : State) : (abort t).now = t.now := rfl
@[simp] theorem abort_out (t : State) : (abort t).out = t.out := rfl


/-! ### resetCore -/

@[simp] theorem resetCore_cfg (s : State) : (resetCore s).cfg = s.cfg := rfl
@[simp] theorem resetCore_fsm (s : State) : (resetCore s).fsm = .idle := rfl
@[simp] theorem resetCore_holdValid (s : State) : (resetCore s).holdValid = false := rfl
@[simp] theorem resetCore_holdChar (s : State) : (resetCore s).holdChar = 0#8 := rfl
@[simp] theorem resetCore_holdLast (s : State) : (resetCore s).holdLast = false := rfl
@[simp] theorem resetCore_curChar (s : State) : (resetCore s).curChar = 0#8 := rfl
@[simp] theorem resetCore_curLast (s : State) : (resetCore s).curLast = false := rfl
@[simp] theorem resetCore_idx (s : State) : (resetCore s).idx = 0#6 := rfl
@[simp] theorem resetCore_sr (s : State) : (resetCore s).sr = 0#16 := rfl
@[simp] theorem resetCore_slot (s : State) : (resetCore s).slot = 0#4 := rfl
@[simp] theorem resetCore_cnt (s : State) : (resetCore s).cnt = 0#19 := rfl
@[simp] theorem resetCore_evOn (s : State) : (resetCore s).evOn = false := rfl
@[simp] theorem resetCore_evUnits (s : State) : (resetCore s).evUnits = 0#3 := rfl
@[simp] theorem resetCore_evTicks (s : State) : (resetCore s).evTicks = 0#19 := rfl
@[simp] theorem resetCore_evStb (s : State) : (resetCore s).evStb = false := rfl
@[simp] theorem resetCore_firstSym (s : State) : (resetCore s).firstSym = false := rfl
@[simp] theorem resetCore_havePrev (s : State) : (resetCore s).havePrev = false := rfl
@[simp] theorem resetCore_prevWb (s : State) : (resetCore s).prevWb = false := rfl
@[simp] theorem resetCore_skip (s : State) : (resetCore s).skip = false := rfl
@[simp] theorem resetCore_errMsg (s : State) : (resetCore s).errMsg = false := rfl
@[simp] theorem resetCore_unk (s : State) : (resetCore s).unk = false := rfl
@[simp] theorem resetCore_fatal (s : State) : (resetCore s).fatal = !tableAligned s.cfg := rfl
@[simp] theorem resetCore_unit (s : State) : (resetCore s).unit = s.cfg.resetUnit := rfl
@[simp] theorem resetCore_lenient (s : State) : (resetCore s).lenient = s.cfg.resetLenient := rfl
@[simp] theorem resetCore_lkChar (s : State) : (resetCore s).lkChar = 0#8 := rfl
@[simp] theorem resetCore_lkFound (s : State) : (resetCore s).lkFound = false := rfl
@[simp] theorem resetCore_lkIdx (s : State) : (resetCore s).lkIdx = 0#6 := rfl
@[simp] theorem resetCore_host (s : State) : (resetCore s).host = s.host := rfl
@[simp] theorem resetCore_now (s : State) : (resetCore s).now = s.now := rfl
@[simp] theorem resetCore_out (s : State) : (resetCore s).out = s.out := rfl


/-! ### finishSymbol -/

@[simp] theorem finishSymbol_cfg (s t : State) : (finishSymbol s t).cfg = t.cfg := rfl
@[simp] theorem finishSymbol_fsm (s t : State) : (finishSymbol s t).fsm = .unpack := rfl
@[simp] theorem finishSymbol_holdValid (s t : State) : (finishSymbol s t).holdValid = t.holdValid := rfl
@[simp] theorem finishSymbol_holdChar (s t : State) : (finishSymbol s t).holdChar = t.holdChar := rfl
@[simp] theorem finishSymbol_holdLast (s t : State) : (finishSymbol s t).holdLast = t.holdLast := rfl
@[simp] theorem finishSymbol_curChar (s t : State) : (finishSymbol s t).curChar = t.curChar := rfl
@[simp] theorem finishSymbol_curLast (s t : State) : (finishSymbol s t).curLast = t.curLast := rfl
@[simp] theorem finishSymbol_idx (s t : State) : (finishSymbol s t).idx = t.idx := rfl
@[simp] theorem finishSymbol_sr (s t : State) : (finishSymbol s t).sr = s.sr <<< 2 := rfl
@[simp] theorem finishSymbol_slot (s t : State) : (finishSymbol s t).slot = s.slot + 1#4 := rfl
@[simp] theorem finishSymbol_cnt (s t : State) : (finishSymbol s t).cnt = t.cnt := rfl
@[simp] theorem finishSymbol_evOn (s t : State) : (finishSymbol s t).evOn = t.evOn := rfl
@[simp] theorem finishSymbol_evUnits (s t : State) : (finishSymbol s t).evUnits = t.evUnits := rfl
@[simp] theorem finishSymbol_evTicks (s t : State) : (finishSymbol s t).evTicks = t.evTicks := rfl
@[simp] theorem finishSymbol_evStb (s t : State) : (finishSymbol s t).evStb = t.evStb := rfl
@[simp] theorem finishSymbol_firstSym (s t : State) : (finishSymbol s t).firstSym = false := rfl
@[simp] theorem finishSymbol_havePrev (s t : State) : (finishSymbol s t).havePrev = true := rfl
@[simp] theorem finishSymbol_prevWb (s t : State) : (finishSymbol s t).prevWb = decide (headSymbol s.sr = .wordBreak) := rfl
@[simp] theorem finishSymbol_skip (s t : State) : (finishSymbol s t).skip = t.skip := rfl
@[simp] theorem finishSymbol_errMsg (s t : State) : (finishSymbol s t).errMsg = t.errMsg := rfl
@[simp] theorem finishSymbol_unk (s t : State) : (finishSymbol s t).unk = t.unk := rfl
@[simp] theorem finishSymbol_fatal (s t : State) : (finishSymbol s t).fatal = t.fatal := rfl
@[simp] theorem finishSymbol_unit (s t : State) : (finishSymbol s t).unit = t.unit := rfl
@[simp] theorem finishSymbol_lenient (s t : State) : (finishSymbol s t).lenient = t.lenient := rfl
@[simp] theorem finishSymbol_lkChar (s t : State) : (finishSymbol s t).lkChar = t.lkChar := rfl
@[simp] theorem finishSymbol_lkFound (s t : State) : (finishSymbol s t).lkFound = t.lkFound := rfl
@[simp] theorem finishSymbol_lkIdx (s t : State) : (finishSymbol s t).lkIdx = t.lkIdx := rfl
@[simp] theorem finishSymbol_host (s t : State) : (finishSymbol s t).host = t.host := rfl
@[simp] theorem finishSymbol_now (s t : State) : (finishSymbol s t).now = t.now := rfl
@[simp] theorem finishSymbol_out (s t : State) : (finishSymbol s t).out = t.out := rfl


/-! ### drive -/

@[simp] theorem drive_cfg (s : State) (p : Inputs) : (s.drive p).cfg = s.cfg := rfl
@[simp] theorem drive_fsm (s : State) (p : Inputs) : (s.drive p).fsm = s.fsm := rfl
@[simp] theorem drive_holdValid (s : State) (p : Inputs) : (s.drive p).holdValid = s.holdValid := rfl
@[simp] theorem drive_holdChar (s : State) (p : Inputs) : (s.drive p).holdChar = s.holdChar := rfl
@[simp] theorem drive_holdLast (s : State) (p : Inputs) : (s.drive p).holdLast = s.holdLast := rfl
@[simp] theorem drive_curChar (s : State) (p : Inputs) : (s.drive p).curChar = s.curChar := rfl
@[simp] theorem drive_curLast (s : State) (p : Inputs) : (s.drive p).curLast = s.curLast := rfl
@[simp] theorem drive_idx (s : State) (p : Inputs) : (s.drive p).idx = s.idx := rfl
@[simp] theorem drive_sr (s : State) (p : Inputs) : (s.drive p).sr = s.sr := rfl
@[simp] theorem drive_slot (s : State) (p : Inputs) : (s.drive p).slot = s.slot := rfl
@[simp] theorem drive_cnt (s : State) (p : Inputs) : (s.drive p).cnt = s.cnt := rfl
@[simp] theorem drive_evOn (s : State) (p : Inputs) : (s.drive p).evOn = s.evOn := rfl
@[simp] theorem drive_evUnits (s : State) (p : Inputs) : (s.drive p).evUnits = s.evUnits := rfl
@[simp] theorem drive_evTicks (s : State) (p : Inputs) : (s.drive p).evTicks = s.evTicks := rfl
@[simp] theorem drive_evStb (s : State) (p : Inputs) : (s.drive p).evStb = s.evStb := rfl
@[simp] theorem drive_firstSym (s : State) (p : Inputs) : (s.drive p).firstSym = s.firstSym := rfl
@[simp] theorem drive_havePrev (s : State) (p : Inputs) : (s.drive p).havePrev = s.havePrev := rfl
@[simp] theorem drive_prevWb (s : State) (p : Inputs) : (s.drive p).prevWb = s.prevWb := rfl
@[simp] theorem drive_skip (s : State) (p : Inputs) : (s.drive p).skip = s.skip := rfl
@[simp] theorem drive_errMsg (s : State) (p : Inputs) : (s.drive p).errMsg = s.errMsg := rfl
@[simp] theorem drive_unk (s : State) (p : Inputs) : (s.drive p).unk = s.unk := rfl
@[simp] theorem drive_fatal (s : State) (p : Inputs) : (s.drive p).fatal = s.fatal := rfl
@[simp] theorem drive_unit (s : State) (p : Inputs) : (s.drive p).unit = s.unit := rfl
@[simp] theorem drive_lenient (s : State) (p : Inputs) : (s.drive p).lenient = s.lenient := rfl
@[simp] theorem drive_lkChar (s : State) (p : Inputs) : (s.drive p).lkChar = s.lkChar := rfl
@[simp] theorem drive_lkFound (s : State) (p : Inputs) : (s.drive p).lkFound = s.lkFound := rfl
@[simp] theorem drive_lkIdx (s : State) (p : Inputs) : (s.drive p).lkIdx = s.lkIdx := rfl
@[simp] theorem drive_host (s : State) (p : Inputs) : (s.drive p).host = p :: s.host.tail := rfl
@[simp] theorem drive_now (s : State) (p : Inputs) : (s.drive p).now = s.now := rfl
@[simp] theorem drive_out (s : State) (p : Inputs) : (s.drive p).out = s.out := rfl


/-! ### placeSymbol -/

@[simp] theorem placeSymbol_cfg (f : Symbol) (s : State) : (s.placeSymbol f).cfg = s.cfg := rfl
@[simp] theorem placeSymbol_fsm (f : Symbol) (s : State) : (s.placeSymbol f).fsm = s.fsm := rfl
@[simp] theorem placeSymbol_holdValid (f : Symbol) (s : State) : (s.placeSymbol f).holdValid = s.holdValid := rfl
@[simp] theorem placeSymbol_holdChar (f : Symbol) (s : State) : (s.placeSymbol f).holdChar = s.holdChar := rfl
@[simp] theorem placeSymbol_holdLast (f : Symbol) (s : State) : (s.placeSymbol f).holdLast = s.holdLast := rfl
@[simp] theorem placeSymbol_curChar (f : Symbol) (s : State) : (s.placeSymbol f).curChar = s.curChar := rfl
@[simp] theorem placeSymbol_curLast (f : Symbol) (s : State) : (s.placeSymbol f).curLast = s.curLast := rfl
@[simp] theorem placeSymbol_idx (f : Symbol) (s : State) : (s.placeSymbol f).idx = s.idx := rfl
@[simp] theorem placeSymbol_sr (f : Symbol) (s : State) : (s.placeSymbol f).sr = setHead f s.sr := rfl
@[simp] theorem placeSymbol_slot (f : Symbol) (s : State) : (s.placeSymbol f).slot = s.slot := rfl
@[simp] theorem placeSymbol_cnt (f : Symbol) (s : State) : (s.placeSymbol f).cnt = s.cnt := rfl
@[simp] theorem placeSymbol_evOn (f : Symbol) (s : State) : (s.placeSymbol f).evOn = s.evOn := rfl
@[simp] theorem placeSymbol_evUnits (f : Symbol) (s : State) : (s.placeSymbol f).evUnits = s.evUnits := rfl
@[simp] theorem placeSymbol_evTicks (f : Symbol) (s : State) : (s.placeSymbol f).evTicks = s.evTicks := rfl
@[simp] theorem placeSymbol_evStb (f : Symbol) (s : State) : (s.placeSymbol f).evStb = s.evStb := rfl
@[simp] theorem placeSymbol_firstSym (f : Symbol) (s : State) : (s.placeSymbol f).firstSym = s.firstSym := rfl
@[simp] theorem placeSymbol_havePrev (f : Symbol) (s : State) : (s.placeSymbol f).havePrev = s.havePrev := rfl
@[simp] theorem placeSymbol_prevWb (f : Symbol) (s : State) : (s.placeSymbol f).prevWb = s.prevWb := rfl
@[simp] theorem placeSymbol_skip (f : Symbol) (s : State) : (s.placeSymbol f).skip = s.skip := rfl
@[simp] theorem placeSymbol_errMsg (f : Symbol) (s : State) : (s.placeSymbol f).errMsg = s.errMsg := rfl
@[simp] theorem placeSymbol_unk (f : Symbol) (s : State) : (s.placeSymbol f).unk = s.unk := rfl
@[simp] theorem placeSymbol_fatal (f : Symbol) (s : State) : (s.placeSymbol f).fatal = s.fatal := rfl
@[simp] theorem placeSymbol_unit (f : Symbol) (s : State) : (s.placeSymbol f).unit = s.unit := rfl
@[simp] theorem placeSymbol_lenient (f : Symbol) (s : State) : (s.placeSymbol f).lenient = s.lenient := rfl
@[simp] theorem placeSymbol_lkChar (f : Symbol) (s : State) : (s.placeSymbol f).lkChar = s.lkChar := rfl
@[simp] theorem placeSymbol_lkFound (f : Symbol) (s : State) : (s.placeSymbol f).lkFound = s.lkFound := rfl
@[simp] theorem placeSymbol_lkIdx (f : Symbol) (s : State) : (s.placeSymbol f).lkIdx = s.lkIdx := rfl
@[simp] theorem placeSymbol_host (f : Symbol) (s : State) : (s.placeSymbol f).host = s.host := rfl
@[simp] theorem placeSymbol_now (f : Symbol) (s : State) : (s.placeSymbol f).now = s.now := rfl
@[simp] theorem placeSymbol_out (f : Symbol) (s : State) : (s.placeSymbol f).out = s.out := rfl


/-! ### transfer -/

@[simp] theorem transfer_cfg (s : State) (p : Inputs) (t : State) : (transfer s p t).cfg = t.cfg := by
  unfold transfer; split <;> rfl
@[simp] theorem transfer_fsm (s : State) (p : Inputs) (t : State) : (transfer s p t).fsm = t.fsm := by
  unfold transfer; split <;> rfl
@[simp] theorem transfer_curChar (s : State) (p : Inputs) (t : State) : (transfer s p t).curChar = t.curChar := by
  unfold transfer; split <;> rfl
@[simp] theorem transfer_curLast (s : State) (p : Inputs) (t : State) : (transfer s p t).curLast = t.curLast := by
  unfold transfer; split <;> rfl
@[simp] theorem transfer_idx (s : State) (p : Inputs) (t : State) : (transfer s p t).idx = t.idx := by
  unfold transfer; split <;> rfl
@[simp] theorem transfer_sr (s : State) (p : Inputs) (t : State) : (transfer s p t).sr = t.sr := by
  unfold transfer; split <;> rfl
@[simp] theorem transfer_slot (s : State) (p : Inputs) (t : State) : (transfer s p t).slot = t.slot := by
  unfold transfer; split <;> rfl
@[simp] theorem transfer_cnt (s : State) (p : Inputs) (t : State) : (transfer s p t).cnt = t.cnt := by
  unfold transfer; split <;> rfl
@[simp] theorem transfer_evOn (s : State) (p : Inputs) (t : State) : (transfer s p t).evOn = t.evOn := by
  unfold transfer; split <;> rfl
@[simp] theorem transfer_evUnits (s : State) (p : Inputs) (t : State) : (transfer s p t).evUnits = t.evUnits := by
  unfold transfer; split <;> rfl
@[simp] theorem transfer_evTicks (s : State) (p : Inputs) (t : State) : (transfer s p t).evTicks = t.evTicks := by
  unfold transfer; split <;> rfl
@[simp] theorem transfer_evStb (s : State) (p : Inputs) (t : State) : (transfer s p t).evStb = t.evStb := by
  unfold transfer; split <;> rfl
@[simp] theorem transfer_firstSym (s : State) (p : Inputs) (t : State) : (transfer s p t).firstSym = t.firstSym := by
  unfold transfer; split <;> rfl
@[simp] theorem transfer_havePrev (s : State) (p : Inputs) (t : State) : (transfer s p t).havePrev = t.havePrev := by
  unfold transfer; split <;> rfl
@[simp] theorem transfer_prevWb (s : State) (p : Inputs) (t : State) : (transfer s p t).prevWb = t.prevWb := by
  unfold transfer; split <;> rfl
@[simp] theorem transfer_skip (s : State) (p : Inputs) (t : State) : (transfer s p t).skip = t.skip := by
  unfold transfer; split <;> rfl
@[simp] theorem transfer_errMsg (s : State) (p : Inputs) (t : State) : (transfer s p t).errMsg = t.errMsg := by
  unfold transfer; split <;> rfl
@[simp] theorem transfer_unk (s : State) (p : Inputs) (t : State) : (transfer s p t).unk = t.unk := by
  unfold transfer; split <;> rfl
@[simp] theorem transfer_fatal (s : State) (p : Inputs) (t : State) : (transfer s p t).fatal = t.fatal := by
  unfold transfer; split <;> rfl
@[simp] theorem transfer_unit (s : State) (p : Inputs) (t : State) : (transfer s p t).unit = t.unit := by
  unfold transfer; split <;> rfl
@[simp] theorem transfer_lenient (s : State) (p : Inputs) (t : State) : (transfer s p t).lenient = t.lenient := by
  unfold transfer; split <;> rfl
@[simp] theorem transfer_lkChar (s : State) (p : Inputs) (t : State) : (transfer s p t).lkChar = t.lkChar := by
  unfold transfer; split <;> rfl
@[simp] theorem transfer_lkFound (s : State) (p : Inputs) (t : State) : (transfer s p t).lkFound = t.lkFound := by
  unfold transfer; split <;> rfl
@[simp] theorem transfer_lkIdx (s : State) (p : Inputs) (t : State) : (transfer s p t).lkIdx = t.lkIdx := by
  unfold transfer; split <;> rfl
@[simp] theorem transfer_host (s : State) (p : Inputs) (t : State) : (transfer s p t).host = t.host := by
  unfold transfer; split <;> rfl
@[simp] theorem transfer_now (s : State) (p : Inputs) (t : State) : (transfer s p t).now = t.now := by
  unfold transfer; split <;> rfl
@[simp] theorem transfer_out (s : State) (p : Inputs) (t : State) : (transfer s p t).out = t.out := by
  unfold transfer; split <;> rfl


/-! ### regWrite -/

@[simp] theorem regWrite_cfg (s : State) (p : Inputs) (t : State) : (regWrite s p t).cfg = t.cfg := by
  unfold regWrite; repeat' split
  all_goals rfl
@[simp] theorem regWrite_fsm (s : State) (p : Inputs) (t : State) : (regWrite s p t).fsm = t.fsm := by
  unfold regWrite; repeat' split
  all_goals rfl
@[simp] theorem regWrite_holdValid (s : State) (p : Inputs) (t : State) : (regWrite s p t).holdValid = t.holdValid := by
  unfold regWrite; repeat' split
  all_goals rfl
@[simp] theorem regWrite_holdChar (s : State) (p : Inputs) (t : State) : (regWrite s p t).holdChar = t.holdChar := by
  unfold regWrite; repeat' split
  all_goals rfl
@[simp] theorem regWrite_holdLast (s : State) (p : Inputs) (t : State) : (regWrite s p t).holdLast = t.holdLast := by
  unfold regWrite; repeat' split
  all_goals rfl
@[simp] theorem regWrite_curChar (s : State) (p : Inputs) (t : State) : (regWrite s p t).curChar = t.curChar := by
  unfold regWrite; repeat' split
  all_goals rfl
@[simp] theorem regWrite_curLast (s : State) (p : Inputs) (t : State) : (regWrite s p t).curLast = t.curLast := by
  unfold regWrite; repeat' split
  all_goals rfl
@[simp] theorem regWrite_idx (s : State) (p : Inputs) (t : State) : (regWrite s p t).idx = t.idx := by
  unfold regWrite; repeat' split
  all_goals rfl
@[simp] theorem regWrite_sr (s : State) (p : Inputs) (t : State) : (regWrite s p t).sr = t.sr := by
  unfold regWrite; repeat' split
  all_goals rfl
@[simp] theorem regWrite_slot (s : State) (p : Inputs) (t : State) : (regWrite s p t).slot = t.slot := by
  unfold regWrite; repeat' split
  all_goals rfl
@[simp] theorem regWrite_cnt (s : State) (p : Inputs) (t : State) : (regWrite s p t).cnt = t.cnt := by
  unfold regWrite; repeat' split
  all_goals rfl
@[simp] theorem regWrite_evOn (s : State) (p : Inputs) (t : State) : (regWrite s p t).evOn = t.evOn := by
  unfold regWrite; repeat' split
  all_goals rfl
@[simp] theorem regWrite_evUnits (s : State) (p : Inputs) (t : State) : (regWrite s p t).evUnits = t.evUnits := by
  unfold regWrite; repeat' split
  all_goals rfl
@[simp] theorem regWrite_evTicks (s : State) (p : Inputs) (t : State) : (regWrite s p t).evTicks = t.evTicks := by
  unfold regWrite; repeat' split
  all_goals rfl
@[simp] theorem regWrite_evStb (s : State) (p : Inputs) (t : State) : (regWrite s p t).evStb = t.evStb := by
  unfold regWrite; repeat' split
  all_goals rfl
@[simp] theorem regWrite_firstSym (s : State) (p : Inputs) (t : State) : (regWrite s p t).firstSym = t.firstSym := by
  unfold regWrite; repeat' split
  all_goals rfl
@[simp] theorem regWrite_havePrev (s : State) (p : Inputs) (t : State) : (regWrite s p t).havePrev = t.havePrev := by
  unfold regWrite; repeat' split
  all_goals rfl
@[simp] theorem regWrite_prevWb (s : State) (p : Inputs) (t : State) : (regWrite s p t).prevWb = t.prevWb := by
  unfold regWrite; repeat' split
  all_goals rfl
@[simp] theorem regWrite_skip (s : State) (p : Inputs) (t : State) : (regWrite s p t).skip = t.skip := by
  unfold regWrite; repeat' split
  all_goals rfl
@[simp] theorem regWrite_errMsg (s : State) (p : Inputs) (t : State) : (regWrite s p t).errMsg = t.errMsg := by
  unfold regWrite; repeat' split
  all_goals rfl
@[simp] theorem regWrite_fatal (s : State) (p : Inputs) (t : State) : (regWrite s p t).fatal = t.fatal := by
  unfold regWrite; repeat' split
  all_goals rfl
@[simp] theorem regWrite_lkChar (s : State) (p : Inputs) (t : State) : (regWrite s p t).lkChar = t.lkChar := by
  unfold regWrite; repeat' split
  all_goals rfl
@[simp] theorem regWrite_lkFound (s : State) (p : Inputs) (t : State) : (regWrite s p t).lkFound = t.lkFound := by
  unfold regWrite; repeat' split
  all_goals rfl
@[simp] theorem regWrite_lkIdx (s : State) (p : Inputs) (t : State) : (regWrite s p t).lkIdx = t.lkIdx := by
  unfold regWrite; repeat' split
  all_goals rfl
@[simp] theorem regWrite_host (s : State) (p : Inputs) (t : State) : (regWrite s p t).host = t.host := by
  unfold regWrite; repeat' split
  all_goals rfl
@[simp] theorem regWrite_now (s : State) (p : Inputs) (t : State) : (regWrite s p t).now = t.now := by
  unfold regWrite; repeat' split
  all_goals rfl
@[simp] theorem regWrite_out (s : State) (p : Inputs) (t : State) : (regWrite s p t).out = t.out := by
  unfold regWrite; repeat' split
  all_goals rfl


/-! ### abortStep -/

@[simp] theorem abortStep_cfg (p : Inputs) (t : State) : (abortStep p t).cfg = t.cfg := by
  unfold abortStep; split <;> rfl
@[simp] theorem abortStep_holdChar (p : Inputs) (t : State) : (abortStep p t).holdChar = t.holdChar := by
  unfold abortStep; split <;> rfl
@[simp] theorem abortStep_holdLast (p : Inputs) (t : State) : (abortStep p t).holdLast = t.holdLast := by
  unfold abortStep; split <;> rfl
@[simp] theorem abortStep_curChar (p : Inputs) (t : State) : (abortStep p t).curChar = t.curChar := by
  unfold abortStep; split <;> rfl
@[simp] theorem abortStep_curLast (p : Inputs) (t : State) : (abortStep p t).curLast = t.curLast := by
  unfold abortStep; split <;> rfl
@[simp] theorem abortStep_idx (p : Inputs) (t : State) : (abortStep p t).idx = t.idx := by
  unfold abortStep; split <;> rfl
@[simp] theorem abortStep_sr (p : Inputs) (t : State) : (abortStep p t).sr = t.sr := by
  unfold abortStep; split <;> rfl
@[simp] theorem abortStep_slot (p : Inputs) (t : State) : (abortStep p t).slot = t.slot := by
  unfold abortStep; split <;> rfl
@[simp] theorem abortStep_evOn (p : Inputs) (t : State) : (abortStep p t).evOn = t.evOn := by
  unfold abortStep; split <;> rfl
@[simp] theorem abortStep_evUnits (p : Inputs) (t : State) : (abortStep p t).evUnits = t.evUnits := by
  unfold abortStep; split <;> rfl
@[simp] theorem abortStep_evTicks (p : Inputs) (t : State) : (abortStep p t).evTicks = t.evTicks := by
  unfold abortStep; split <;> rfl
@[simp] theorem abortStep_firstSym (p : Inputs) (t : State) : (abortStep p t).firstSym = t.firstSym := by
  unfold abortStep; split <;> rfl
@[simp] theorem abortStep_unk (p : Inputs) (t : State) : (abortStep p t).unk = t.unk := by
  unfold abortStep; split <;> rfl
@[simp] theorem abortStep_fatal (p : Inputs) (t : State) : (abortStep p t).fatal = t.fatal := by
  unfold abortStep; split <;> rfl
@[simp] theorem abortStep_unit (p : Inputs) (t : State) : (abortStep p t).unit = t.unit := by
  unfold abortStep; split <;> rfl
@[simp] theorem abortStep_lenient (p : Inputs) (t : State) : (abortStep p t).lenient = t.lenient := by
  unfold abortStep; split <;> rfl
@[simp] theorem abortStep_lkChar (p : Inputs) (t : State) : (abortStep p t).lkChar = t.lkChar := by
  unfold abortStep; split <;> rfl
@[simp] theorem abortStep_lkFound (p : Inputs) (t : State) : (abortStep p t).lkFound = t.lkFound := by
  unfold abortStep; split <;> rfl
@[simp] theorem abortStep_lkIdx (p : Inputs) (t : State) : (abortStep p t).lkIdx = t.lkIdx := by
  unfold abortStep; split <;> rfl
@[simp] theorem abortStep_host (p : Inputs) (t : State) : (abortStep p t).host = t.host := by
  unfold abortStep; split <;> rfl
@[simp] theorem abortStep_now (p : Inputs) (t : State) : (abortStep p t).now = t.now := by
  unfold abortStep; split <;> rfl
@[simp] theorem abortStep_out (p : Inputs) (t : State) : (abortStep p t).out = t.out := by
  unfold abortStep; split <;> rfl


/-! ### countTick -/

@[simp] theorem countTick_cfg (tick : Bool) (s t : State) : (countTick tick s t).cfg = t.cfg := by
  unfold countTick; split <;> rfl
@[simp] theorem countTick_fsm (tick : Bool) (s t : State) : (countTick tick s t).fsm = t.fsm := by
  unfold countTick; split <;> rfl
@[simp] theorem countTick_holdValid (tick : Bool) (s t : State) : (countTick tick s t).holdValid = t.holdValid := by
  unfold countTick; split <;> rfl
@[simp] theorem countTick_holdChar (tick : Bool) (s t : State) : (countTick tick s t).holdChar = t.holdChar := by
  unfold countTick; split <;> rfl
@[simp] theorem countTick_holdLast (tick : Bool) (s t : State) : (countTick tick s t).holdLast = t.holdLast := by
  unfold countTick; split <;> rfl
@[simp] theorem countTick_curChar (tick : Bool) (s t : State) : (countTick tick s t).curChar = t.curChar := by
  unfold countTick; split <;> rfl
@[simp] theorem countTick_curLast (tick : Bool) (s t : State) : (countTick tick s t).curLast = t.curLast := by
  unfold countTick; split <;> rfl
@[simp] theorem countTick_idx (tick : Bool) (s t : State) : (countTick tick s t).idx = t.idx := by
  unfold countTick; split <;> rfl
@[simp] theorem countTick_sr (tick : Bool) (s t : State) : (countTick tick s t).sr = t.sr := by
  unfold countTick; split <;> rfl
@[simp] theorem countTick_slot (tick : Bool) (s t : State) : (countTick tick s t).slot = t.slot := by
  unfold countTick; split <;> rfl
@[simp] theorem countTick_evOn (tick : Bool) (s t : State) : (countTick tick s t).evOn = t.evOn := by
  unfold countTick; split <;> rfl
@[simp] theorem countTick_evUnits (tick : Bool) (s t : State) : (countTick tick s t).evUnits = t.evUnits := by
  unfold countTick; split <;> rfl
@[simp] theorem countTick_evTicks (tick : Bool) (s t : State) : (countTick tick s t).evTicks = t.evTicks := by
  unfold countTick; split <;> rfl
@[simp] theorem countTick_evStb (tick : Bool) (s t : State) : (countTick tick s t).evStb = t.evStb := by
  unfold countTick; split <;> rfl
@[simp] theorem countTick_firstSym (tick : Bool) (s t : State) : (countTick tick s t).firstSym = t.firstSym := by
  unfold countTick; split <;> rfl
@[simp] theorem countTick_havePrev (tick : Bool) (s t : State) : (countTick tick s t).havePrev = t.havePrev := by
  unfold countTick; split <;> rfl
@[simp] theorem countTick_prevWb (tick : Bool) (s t : State) : (countTick tick s t).prevWb = t.prevWb := by
  unfold countTick; split <;> rfl
@[simp] theorem countTick_skip (tick : Bool) (s t : State) : (countTick tick s t).skip = t.skip := by
  unfold countTick; split <;> rfl
@[simp] theorem countTick_errMsg (tick : Bool) (s t : State) : (countTick tick s t).errMsg = t.errMsg := by
  unfold countTick; split <;> rfl
@[simp] theorem countTick_unk (tick : Bool) (s t : State) : (countTick tick s t).unk = t.unk := by
  unfold countTick; split <;> rfl
@[simp] theorem countTick_fatal (tick : Bool) (s t : State) : (countTick tick s t).fatal = t.fatal := by
  unfold countTick; split <;> rfl
@[simp] theorem countTick_unit (tick : Bool) (s t : State) : (countTick tick s t).unit = t.unit := by
  unfold countTick; split <;> rfl
@[simp] theorem countTick_lenient (tick : Bool) (s t : State) : (countTick tick s t).lenient = t.lenient := by
  unfold countTick; split <;> rfl
@[simp] theorem countTick_lkChar (tick : Bool) (s t : State) : (countTick tick s t).lkChar = t.lkChar := by
  unfold countTick; split <;> rfl
@[simp] theorem countTick_lkFound (tick : Bool) (s t : State) : (countTick tick s t).lkFound = t.lkFound := by
  unfold countTick; split <;> rfl
@[simp] theorem countTick_lkIdx (tick : Bool) (s t : State) : (countTick tick s t).lkIdx = t.lkIdx := by
  unfold countTick; split <;> rfl
@[simp] theorem countTick_host (tick : Bool) (s t : State) : (countTick tick s t).host = t.host := by
  unfold countTick; split <;> rfl
@[simp] theorem countTick_now (tick : Bool) (s t : State) : (countTick tick s t).now = t.now := by
  unfold countTick; split <;> rfl
@[simp] theorem countTick_out (tick : Bool) (s t : State) : (countTick tick s t).out = t.out := by
  unfold countTick; split <;> rfl


/-! ### takeUnknownCharacter -/

@[simp] theorem takeUnknownCharacter_cfg (s t : State) : (takeUnknownCharacter s t).cfg = t.cfg := by
  unfold takeUnknownCharacter endCharacter setLookup; cases s.lenient <;> rfl
@[simp] theorem takeUnknownCharacter_fsm (s t : State) : (takeUnknownCharacter s t).fsm = if s.curLast then .done else .idle := by
  unfold takeUnknownCharacter endCharacter setLookup; cases s.lenient <;> rfl
@[simp] theorem takeUnknownCharacter_holdValid (s t : State) : (takeUnknownCharacter s t).holdValid = t.holdValid := by
  unfold takeUnknownCharacter endCharacter setLookup; cases s.lenient <;> rfl
@[simp] theorem takeUnknownCharacter_holdChar (s t : State) : (takeUnknownCharacter s t).holdChar = t.holdChar := by
  unfold takeUnknownCharacter endCharacter setLookup; cases s.lenient <;> rfl
@[simp] theorem takeUnknownCharacter_holdLast (s t : State) : (takeUnknownCharacter s t).holdLast = t.holdLast := by
  unfold takeUnknownCharacter endCharacter setLookup; cases s.lenient <;> rfl
@[simp] theorem takeUnknownCharacter_curChar (s t : State) : (takeUnknownCharacter s t).curChar = t.curChar := by
  unfold takeUnknownCharacter endCharacter setLookup; cases s.lenient <;> rfl
@[simp] theorem takeUnknownCharacter_curLast (s t : State) : (takeUnknownCharacter s t).curLast = t.curLast := by
  unfold takeUnknownCharacter endCharacter setLookup; cases s.lenient <;> rfl
@[simp] theorem takeUnknownCharacter_idx (s t : State) : (takeUnknownCharacter s t).idx = t.idx := by
  unfold takeUnknownCharacter endCharacter setLookup; cases s.lenient <;> rfl
@[simp] theorem takeUnknownCharacter_sr (s t : State) : (takeUnknownCharacter s t).sr = t.sr := by
  unfold takeUnknownCharacter endCharacter setLookup; cases s.lenient <;> rfl
@[simp] theorem takeUnknownCharacter_slot (s t : State) : (takeUnknownCharacter s t).slot = t.slot := by
  unfold takeUnknownCharacter endCharacter setLookup; cases s.lenient <;> rfl
@[simp] theorem takeUnknownCharacter_cnt (s t : State) : (takeUnknownCharacter s t).cnt = t.cnt := by
  unfold takeUnknownCharacter endCharacter setLookup; cases s.lenient <;> rfl
@[simp] theorem takeUnknownCharacter_evOn (s t : State) : (takeUnknownCharacter s t).evOn = t.evOn := by
  unfold takeUnknownCharacter endCharacter setLookup; cases s.lenient <;> rfl
@[simp] theorem takeUnknownCharacter_evUnits (s t : State) : (takeUnknownCharacter s t).evUnits = t.evUnits := by
  unfold takeUnknownCharacter endCharacter setLookup; cases s.lenient <;> rfl
@[simp] theorem takeUnknownCharacter_evTicks (s t : State) : (takeUnknownCharacter s t).evTicks = t.evTicks := by
  unfold takeUnknownCharacter endCharacter setLookup; cases s.lenient <;> rfl
@[simp] theorem takeUnknownCharacter_evStb (s t : State) : (takeUnknownCharacter s t).evStb = t.evStb := by
  unfold takeUnknownCharacter endCharacter setLookup; cases s.lenient <;> rfl
@[simp] theorem takeUnknownCharacter_firstSym (s t : State) : (takeUnknownCharacter s t).firstSym = t.firstSym := by
  unfold takeUnknownCharacter endCharacter setLookup; cases s.lenient <;> rfl
@[simp] theorem takeUnknownCharacter_havePrev (s t : State) : (takeUnknownCharacter s t).havePrev = t.havePrev := by
  unfold takeUnknownCharacter endCharacter setLookup; cases s.lenient <;> rfl
@[simp] theorem takeUnknownCharacter_prevWb (s t : State) : (takeUnknownCharacter s t).prevWb = t.prevWb := by
  unfold takeUnknownCharacter endCharacter setLookup; cases s.lenient <;> rfl
@[simp] theorem takeUnknownCharacter_unk (s t : State) : (takeUnknownCharacter s t).unk = true := by
  unfold takeUnknownCharacter endCharacter setLookup; cases s.lenient <;> rfl
@[simp] theorem takeUnknownCharacter_fatal (s t : State) : (takeUnknownCharacter s t).fatal = t.fatal := by
  unfold takeUnknownCharacter endCharacter setLookup; cases s.lenient <;> rfl
@[simp] theorem takeUnknownCharacter_unit (s t : State) : (takeUnknownCharacter s t).unit = t.unit := by
  unfold takeUnknownCharacter endCharacter setLookup; cases s.lenient <;> rfl
@[simp] theorem takeUnknownCharacter_lenient (s t : State) : (takeUnknownCharacter s t).lenient = t.lenient := by
  unfold takeUnknownCharacter endCharacter setLookup; cases s.lenient <;> rfl
@[simp] theorem takeUnknownCharacter_lkChar (s t : State) : (takeUnknownCharacter s t).lkChar = s.curChar := by
  unfold takeUnknownCharacter endCharacter setLookup; cases s.lenient <;> rfl
@[simp] theorem takeUnknownCharacter_lkFound (s t : State) : (takeUnknownCharacter s t).lkFound = false := by
  unfold takeUnknownCharacter endCharacter setLookup; cases s.lenient <;> rfl
@[simp] theorem takeUnknownCharacter_lkIdx (s t : State) : (takeUnknownCharacter s t).lkIdx = s.idx := by
  unfold takeUnknownCharacter endCharacter setLookup; cases s.lenient <;> rfl
@[simp] theorem takeUnknownCharacter_host (s t : State) : (takeUnknownCharacter s t).host = t.host := by
  unfold takeUnknownCharacter endCharacter setLookup; cases s.lenient <;> rfl
@[simp] theorem takeUnknownCharacter_now (s t : State) : (takeUnknownCharacter s t).now = t.now := by
  unfold takeUnknownCharacter endCharacter setLookup; cases s.lenient <;> rfl
@[simp] theorem takeUnknownCharacter_out (s t : State) : (takeUnknownCharacter s t).out = t.out := by
  unfold takeUnknownCharacter endCharacter setLookup; cases s.lenient <;> rfl

/-! ### the two ends of a cycle -/

@[simp] theorem beforeAction_cfg (s : State) (p : Inputs) : (beforeAction s p).cfg = s.cfg := by simp [beforeAction]
@[simp] theorem beforeAction_fsm (s : State) (p : Inputs) : (beforeAction s p).fsm = s.fsm := by simp [beforeAction]
@[simp] theorem beforeAction_curChar (s : State) (p : Inputs) : (beforeAction s p).curChar = s.curChar := by simp [beforeAction]
@[simp] theorem beforeAction_curLast (s : State) (p : Inputs) : (beforeAction s p).curLast = s.curLast := by simp [beforeAction]
@[simp] theorem beforeAction_idx (s : State) (p : Inputs) : (beforeAction s p).idx = s.idx := by simp [beforeAction]
@[simp] theorem beforeAction_sr (s : State) (p : Inputs) : (beforeAction s p).sr = s.sr := by simp [beforeAction]
@[simp] theorem beforeAction_slot (s : State) (p : Inputs) : (beforeAction s p).slot = s.slot := by simp [beforeAction]
@[simp] theorem beforeAction_cnt (s : State) (p : Inputs) : (beforeAction s p).cnt = s.cnt := by simp [beforeAction]
@[simp] theorem beforeAction_evOn (s : State) (p : Inputs) : (beforeAction s p).evOn = s.evOn := by simp [beforeAction]
@[simp] theorem beforeAction_evUnits (s : State) (p : Inputs) : (beforeAction s p).evUnits = s.evUnits := by simp [beforeAction]
@[simp] theorem beforeAction_evTicks (s : State) (p : Inputs) : (beforeAction s p).evTicks = s.evTicks := by simp [beforeAction]
@[simp] theorem beforeAction_firstSym (s : State) (p : Inputs) : (beforeAction s p).firstSym = s.firstSym := by simp [beforeAction]
@[simp] theorem beforeAction_havePrev (s : State) (p : Inputs) : (beforeAction s p).havePrev = s.havePrev := by simp [beforeAction]
@[simp] theorem beforeAction_prevWb (s : State) (p : Inputs) : (beforeAction s p).prevWb = s.prevWb := by simp [beforeAction]
@[simp] theorem beforeAction_skip (s : State) (p : Inputs) : (beforeAction s p).skip = s.skip := by simp [beforeAction]
@[simp] theorem beforeAction_errMsg (s : State) (p : Inputs) : (beforeAction s p).errMsg = s.errMsg := by simp [beforeAction]
@[simp] theorem beforeAction_unk (s : State) (p : Inputs) : (beforeAction s p).unk = s.unk := by simp [beforeAction]
@[simp] theorem beforeAction_fatal (s : State) (p : Inputs) : (beforeAction s p).fatal = s.fatal := by simp [beforeAction]
@[simp] theorem beforeAction_unit (s : State) (p : Inputs) : (beforeAction s p).unit = s.unit := by simp [beforeAction]
@[simp] theorem beforeAction_lenient (s : State) (p : Inputs) : (beforeAction s p).lenient = s.lenient := by simp [beforeAction]
@[simp] theorem beforeAction_lkChar (s : State) (p : Inputs) : (beforeAction s p).lkChar = s.lkChar := by simp [beforeAction]
@[simp] theorem beforeAction_lkFound (s : State) (p : Inputs) : (beforeAction s p).lkFound = s.lkFound := by simp [beforeAction]
@[simp] theorem beforeAction_lkIdx (s : State) (p : Inputs) : (beforeAction s p).lkIdx = s.lkIdx := by simp [beforeAction]
@[simp] theorem beforeAction_host (s : State) (p : Inputs) : (beforeAction s p).host = s.host := by simp [beforeAction]
@[simp] theorem beforeAction_now (s : State) (p : Inputs) : (beforeAction s p).now = s.now := by simp [beforeAction]
@[simp] theorem beforeAction_out (s : State) (p : Inputs) : (beforeAction s p).out = s.out := by simp [beforeAction]
@[simp] theorem beforeAction_evStb (s : State) (p : Inputs) : (beforeAction s p).evStb = false := by simp [beforeAction]

@[simp] theorem afterAction_cfg (s : State) (p : Inputs) (t : State) : (afterAction s p t).cfg = t.cfg := by simp [afterAction]
@[simp] theorem afterAction_holdChar (s : State) (p : Inputs) (t : State) : (afterAction s p t).holdChar = t.holdChar := by simp [afterAction]
@[simp] theorem afterAction_holdLast (s : State) (p : Inputs) (t : State) : (afterAction s p t).holdLast = t.holdLast := by simp [afterAction]
@[simp] theorem afterAction_curChar (s : State) (p : Inputs) (t : State) : (afterAction s p t).curChar = t.curChar := by simp [afterAction]
@[simp] theorem afterAction_curLast (s : State) (p : Inputs) (t : State) : (afterAction s p t).curLast = t.curLast := by simp [afterAction]
@[simp] theorem afterAction_idx (s : State) (p : Inputs) (t : State) : (afterAction s p t).idx = t.idx := by simp [afterAction]
@[simp] theorem afterAction_sr (s : State) (p : Inputs) (t : State) : (afterAction s p t).sr = t.sr := by simp [afterAction]
@[simp] theorem afterAction_slot (s : State) (p : Inputs) (t : State) : (afterAction s p t).slot = t.slot := by simp [afterAction]
@[simp] theorem afterAction_evOn (s : State) (p : Inputs) (t : State) : (afterAction s p t).evOn = t.evOn := by simp [afterAction]
@[simp] theorem afterAction_evUnits (s : State) (p : Inputs) (t : State) : (afterAction s p t).evUnits = t.evUnits := by simp [afterAction]
@[simp] theorem afterAction_evTicks (s : State) (p : Inputs) (t : State) : (afterAction s p t).evTicks = t.evTicks := by simp [afterAction]
@[simp] theorem afterAction_firstSym (s : State) (p : Inputs) (t : State) : (afterAction s p t).firstSym = t.firstSym := by simp [afterAction]
@[simp] theorem afterAction_fatal (s : State) (p : Inputs) (t : State) : (afterAction s p t).fatal = t.fatal := by simp [afterAction]
@[simp] theorem afterAction_lkChar (s : State) (p : Inputs) (t : State) : (afterAction s p t).lkChar = t.lkChar := by simp [afterAction]
@[simp] theorem afterAction_lkFound (s : State) (p : Inputs) (t : State) : (afterAction s p t).lkFound = t.lkFound := by simp [afterAction]
@[simp] theorem afterAction_lkIdx (s : State) (p : Inputs) (t : State) : (afterAction s p t).lkIdx = t.lkIdx := by simp [afterAction]
@[simp] theorem afterAction_host (s : State) (p : Inputs) (t : State) : (afterAction s p t).host = t.host := by simp [afterAction]
@[simp] theorem afterAction_now (s : State) (p : Inputs) (t : State) : (afterAction s p t).now = t.now := by simp [afterAction]
@[simp] theorem afterAction_out (s : State) (p : Inputs) (t : State) : (afterAction s p t).out = t.out := by simp [afterAction]

end Sys2Proof.Machine
end

