-- ==== Sys2Proof/Laws/Cycle.lean ====
section
/-! SUPPORT. What a cycle can do, said once: the inversion lemmas of `cycle` and of the state actions
it is made of. Proofs cite these instead of unfolding. -/

namespace Sys2Proof.Machine

/-- Everything a clock edge can answer as a next state (`45_cycle_fsm.md` R231). -/
theorem clock_next_iff (s : State) (p : Inputs) (u : State) : clock s p = .next u ↔
    supported s.cfg = true ∧
      ((p.rst = true ∧ u = advance s p (resetCore s))
        ∨ (p.rst = false ∧ ∃ t, fsmAction p.tick s (beforeAction s p) = .next t ∧ u = edge s p t)) := by
  unfold clock
  by_cases hs : supported s.cfg = true
  · cases hr : p.rst
    · cases hf : fsmAction p.tick s (beforeAction s p) with
      | next t => simp [hs, eq_comm]
      | fault r => simp [hs]
      | refused r => simp [hs]
    · simp [hs, eq_comm]
  · simp [hs]

/-- A clock edge without reset, given what its state action answers. -/
theorem clock_of_action {s t : State} {p : Inputs} (hs : supported s.cfg = true) (hr : p.rst = false)
    (hf : fsmAction p.tick s (beforeAction s p) = .next t) : clock s p = .next (edge s p t) :=
  (clock_next_iff s p _).2 ⟨hs, .inr ⟨hr, t, hf, rfl⟩⟩

/-- A clock edge with reset (R300). -/
theorem clock_of_reset {s : State} {p : Inputs} (hs : supported s.cfg = true) (hr : p.rst = true) :
    clock s p = .next (advance s p (resetCore s)) :=
  (clock_next_iff s p _).2 ⟨hs, .inl ⟨hr, rfl⟩⟩

/-- The load of a symbol's event answers a next state exactly for a symbol with an event. -/
theorem loadSymbol_next_iff (f : Symbol) (s t u : State) : loadSymbol f s t = .next u ↔
    ∃ e, symEvent f = some e ∧ u = { loadEvent s e t with fsm := .tSym } := by
  unfold loadSymbol
  cases symEvent f <;> simp [eq_comm]

/-- The three ways a SCAN cycle answers a next state (R234). -/
theorem scanAction_next_iff (s t u : State) : scanAction s t = .next u ↔
    ∃ c, s.cfg.charRom.read s.idx.toNat = some c ∧
      ((c = s.cfg.sentinel ∧ u = takeUnknownCharacter s t)
        ∨ (c ≠ s.cfg.sentinel ∧ c = s.curChar ∧
            ∃ w, recWord s.cfg s.idx.toNat = some w ∧ u = loadRecord w (setLookup s true t))
        ∨ (c ≠ s.cfg.sentinel ∧ c ≠ s.curChar ∧ u = { t with idx := s.idx + 1#6 })) := by
  unfold scanAction
  cases s.cfg.charRom.read s.idx.toNat with
  | none => simp
  | some c =>
    by_cases h1 : c = s.cfg.sentinel
    · simp [h1, eq_comm]
    · by_cases h2 : c = s.curChar
      · subst h2
        cases recWord s.cfg s.idx.toNat <;> simp [h1, eq_comm]
      · simp [h1, h2, eq_comm]

/-- The three ways an UNPACK cycle answers a next state (R235). -/
theorem unpackAction_next_iff (s t u : State) : unpackAction s t = .next u ↔
    (recordFinished s = true ∧ u = endCharacter s t)
    ∨ (recordFinished s = false
        ∧ needGap s.cfg.wbAbsorb s.havePrev s.prevWb (headSymbol s.sr) = true
        ∧ u = { loadEvent s (gapEvent s.firstSym) t with fsm := .tGap })
    ∨ (recordFinished s = false
        ∧ needGap s.cfg.wbAbsorb s.havePrev s.prevWb (headSymbol s.sr) = false
        ∧ ∃ e, symEvent (headSymbol s.sr) = some e ∧ u = { loadEvent s e t with fsm := .tSym }) := by
  unfold unpackAction
  cases recordFinished s
  · cases needGap s.cfg.wbAbsorb s.havePrev s.prevWb (headSymbol s.sr)
    · simp [loadSymbol_next_iff]
    · simp [@eq_comm _ u]
  · simp [@eq_comm _ u]

/-- The two ways a T_GAP cycle answers a next state (R236). -/
theorem gapAction_next_iff (tick : Bool) (s t u : State) : gapAction tick s t = .next u ↔
    (s.cnt = 0#19 ∧ ∃ e, symEvent (headSymbol s.sr) = some e ∧ u = { loadEvent s e t with fsm := .tSym })
    ∨ (s.cnt ≠ 0#19 ∧ u = countTick tick s t) := by
  unfold gapAction
  by_cases h : s.cnt = 0#19
  · simp [h, loadSymbol_next_iff]
  · simp [h, eq_comm]

/-- A record that is not finished has a symbol with an event at its head. -/
theorem head_ne_terminator_of_not_finished {s : State} (h : recordFinished s = false) :
    headSymbol s.sr ≠ .terminator ∧ s.slot ≠ 8#4 := by
  simpa [recordFinished, and_comm] using h

/-- Every symbol but TERMINATOR has an event. -/
theorem symEvent_isSome {f : Symbol} (h : f ≠ .terminator) : ∃ e, symEvent f = some e := by
  cases f
  · exact absurd rfl h
  all_goals exact ⟨_, rfl⟩

/-- The ratio multiplexer multiplies exactly: 1, 3 and 7 times `UNIT` fit in 19 bits
(`43_timing.md` R180, `30_encoding.md` R90 (d)). -/
theorem ratioTicks_toNat (u : Units) (unit : Word16) (h : u = 1#3 ∨ u = 3#3 ∨ u = 7#3) :
    (ratioTicks u unit).toNat = u.toNat * unit.toNat := by
  have hu := unit.isLt
  rcases h with rfl | rfl | rfl
  · simp [ratioTicks, zext19]
    omega
  · simp [ratioTicks, zext19, BitVec.toNat_add, BitVec.toNat_shiftLeft, Nat.shiftLeft_eq]
    omega
  · simp [ratioTicks, zext19, BitVec.toNat_sub, BitVec.toNat_shiftLeft, Nat.shiftLeft_eq]
    omega

/-- What an ABORT written in the cycle does at its end (`44_host_ops.md` R211). -/
theorem afterAction_of_abort {s t : State} {p : Inputs} (h : aborts p = true) :
    afterAction s p t = abort { t with lenient := p.regWdata.getLsbD 0 } := by
  obtain ⟨⟨hw, ha⟩, -⟩ : (p.regWe = true ∧ p.regAddr = 1#2) ∧ p.regWdata.getLsbD 1 = true := by
    simpa [aborts, writesReg] using h
  simp [afterAction, abortStep, h, regWrite, writesReg, hw, ha]

/-- Without an ABORT the end of a cycle is the register write. -/
theorem afterAction_of_not_abort {s t : State} {p : Inputs} (h : aborts p = false) :
    afterAction s p t = regWrite s p t := by
  simp [afterAction, abortStep, h]

/-- Without a register write the end of a cycle changes nothing. -/
theorem afterAction_of_no_write {s t : State} {p : Inputs} (h : p.regWe = false) :
    afterAction s p t = t := by
  simp [afterAction, abortStep, aborts, regWrite, writesReg, h]

end Sys2Proof.Machine
end

