-- ==== Sys2Proof/Laws/Memory.lean ====
section
/-! SUPPORT. The laws of the read-only memories: what an entry reads as, and that the memory of the
reset state is in the canonical form. There is no write, so reading is the only operation. -/

namespace Sys2Proof.Machine

/-- Reading consecutive bytes: an address below the base does not exist. -/
theorem read_ofBytes_lt (bs : List Byte) (base a : Nat) (h : a < base) :
    (Memory.ofBytes base bs).read a = none := by
  induction bs generalizing base with
  | nil => rfl
  | cons v bs ih =>
    rw [Memory.ofBytes, Memory.read, if_neg (by omega)]
    exact ih _ (by omega)

/-- Reading consecutive bytes: entry `k` stands at `base + k`. -/
theorem read_ofBytes (bs : List Byte) (base k : Nat) :
    (Memory.ofBytes base bs).read (base + k) = bs[k]? := by
  induction bs generalizing base k with
  | nil => simp [Memory.ofBytes, Memory.read]
  | cons v bs ih =>
    rw [Memory.ofBytes, Memory.read]
    cases k with
    | zero => simp
    | succ k =>
      rw [if_neg (by omega), show base + (k + 1) = base + 1 + k by omega, ih]
      simp

/-- The addresses of consecutive bytes. -/
theorem addresses_ofBytes (bs : List Byte) (base : Nat) :
    (Memory.ofBytes base bs).addresses = List.range' base bs.length := by
  induction bs generalizing base with
  | nil => rfl
  | cons v bs ih =>
    simpa [Memory.addresses, Memory.ofBytes, List.range'_succ] using ih (base + 1)

/-- Consecutive bytes are in the canonical form. -/
theorem ofBytes_wf (bs : List Byte) (base : Nat) : (Memory.ofBytes base bs).wf = true := by
  induction bs generalizing base with
  | nil => rfl
  | cons v bs ih =>
    cases bs with
    | nil => rfl
    | cons u bs =>
      have := ih (base + 1)
      simp only [Memory.ofBytes] at this ⊢
      simp [Memory.wf, this]

/-- An address reads as a byte exactly when it is listed. -/
theorem read_isSome_iff (m : Memory) (a : Nat) : (m.read a).isSome = true ↔ a ∈ m.addresses := by
  induction m with
  | nil => simp [Memory.read, Memory.addresses]
  | cons c m ih =>
    obtain ⟨b, v⟩ := c
    by_cases h : a = b
    · simp [Memory.read, Memory.addresses, h]
    · simpa [Memory.read, Memory.addresses, h] using ih

/-- Both ROMs of the reset state are in the canonical form. -/
theorem reset_memory_wf : State.reset.cfg.charRom.wf = true ∧ State.reset.cfg.recRom.wf = true :=
  ⟨ofBytes_wf _ _, ofBytes_wf _ _⟩

/-- A record word exists exactly when both its bytes do. -/
theorem recWord_eq_some (cfg : Config) (i : Nat) (w : Word16) :
    recWord cfg i = some w ↔
      ∃ hi lo, cfg.recRom.read (2 * i) = some hi ∧ cfg.recRom.read (2 * i + 1) = some lo ∧ hi ++ lo = w := by
  unfold recWord
  split
  · rename_i hi lo h1 h2
    simp [h1, h2]
  · rename_i h
    constructor
    · intro h'
      cases h'
    · rintro ⟨hi, lo, h1, h2, -⟩
      exact absurd h2 (h hi lo h1)

end Sys2Proof.Machine
end

