-- ==== Sys2Proof/Laws/PerInstr.lean ====
section
/-! SUPPORT. The per-instruction family EncodeFormat: an instruction's word stands in the format its
row of the opcode table has. One lemma per constructor. -/

namespace Sys2Proof.Laws

/-- The word of `i` has the format of the row of `i` (`30_encoding.md` R97). -/
def EncodeFormat.Statement (i : Instr) : Prop := i.wellFormed = true

theorem EncodeFormat.terminator : EncodeFormat.Statement .terminator := rfl
theorem EncodeFormat.dot : EncodeFormat.Statement .dot := rfl
theorem EncodeFormat.dash : EncodeFormat.Statement .dash := rfl
theorem EncodeFormat.wordBreak : EncodeFormat.Statement .wordBreak := rfl
theorem EncodeFormat.char0 : EncodeFormat.Statement .char0 := rfl
theorem EncodeFormat.char1 : EncodeFormat.Statement .char1 := rfl
theorem EncodeFormat.char2 : EncodeFormat.Statement .char2 := rfl
theorem EncodeFormat.char3 : EncodeFormat.Statement .char3 := rfl
theorem EncodeFormat.char4 : EncodeFormat.Statement .char4 := rfl
theorem EncodeFormat.char5 : EncodeFormat.Statement .char5 := rfl
theorem EncodeFormat.char6 : EncodeFormat.Statement .char6 := rfl
theorem EncodeFormat.char7 : EncodeFormat.Statement .char7 := rfl
theorem EncodeFormat.char8 : EncodeFormat.Statement .char8 := rfl
theorem EncodeFormat.char9 : EncodeFormat.Statement .char9 := rfl
theorem EncodeFormat.charA (lower : Bool) : EncodeFormat.Statement (.charA lower) := rfl
theorem EncodeFormat.charB (lower : Bool) : EncodeFormat.Statement (.charB lower) := rfl
theorem EncodeFormat.charC (lower : Bool) : EncodeFormat.Statement (.charC lower) := rfl
theorem EncodeFormat.charD (lower : Bool) : EncodeFormat.Statement (.charD lower) := rfl
theorem EncodeFormat.charE (lower : Bool) : EncodeFormat.Statement (.charE lower) := rfl
theorem EncodeFormat.charF (lower : Bool) : EncodeFormat.Statement (.charF lower) := rfl
theorem EncodeFormat.charG (lower : Bool) : EncodeFormat.Statement (.charG lower) := rfl
theorem EncodeFormat.charH (lower : Bool) : EncodeFormat.Statement (.charH lower) := rfl
theorem EncodeFormat.charI (lower : Bool) : EncodeFormat.Statement (.charI lower) := rfl
theorem EncodeFormat.charJ (lower : Bool) : EncodeFormat.Statement (.charJ lower) := rfl
theorem EncodeFormat.charK (lower : Bool) : EncodeFormat.Statement (.charK lower) := rfl
theorem EncodeFormat.charL (lower : Bool) : EncodeFormat.Statement (.charL lower) := rfl
theorem EncodeFormat.charM (lower : Bool) : EncodeFormat.Statement (.charM lower) := rfl
theorem EncodeFormat.charN (lower : Bool) : EncodeFormat.Statement (.charN lower) := rfl
theorem EncodeFormat.charO (lower : Bool) : EncodeFormat.Statement (.charO lower) := rfl
theorem EncodeFormat.charP (lower : Bool) : EncodeFormat.Statement (.charP lower) := rfl
theorem EncodeFormat.charQ (lower : Bool) : EncodeFormat.Statement (.charQ lower) := rfl
theorem EncodeFormat.charR (lower : Bool) : EncodeFormat.Statement (.charR lower) := rfl
theorem EncodeFormat.charS (lower : Bool) : EncodeFormat.Statement (.charS lower) := rfl
theorem EncodeFormat.charT (lower : Bool) : EncodeFormat.Statement (.charT lower) := rfl
theorem EncodeFormat.charU (lower : Bool) : EncodeFormat.Statement (.charU lower) := rfl
theorem EncodeFormat.charV (lower : Bool) : EncodeFormat.Statement (.charV lower) := rfl
theorem EncodeFormat.charW (lower : Bool) : EncodeFormat.Statement (.charW lower) := rfl
theorem EncodeFormat.charX (lower : Bool) : EncodeFormat.Statement (.charX lower) := rfl
theorem EncodeFormat.charY (lower : Bool) : EncodeFormat.Statement (.charY lower) := rfl
theorem EncodeFormat.charZ (lower : Bool) : EncodeFormat.Statement (.charZ lower) := rfl
theorem EncodeFormat.charPeriod : EncodeFormat.Statement .charPeriod := rfl
theorem EncodeFormat.charSlash : EncodeFormat.Statement .charSlash := rfl
theorem EncodeFormat.charQuestion : EncodeFormat.Statement .charQuestion := rfl
theorem EncodeFormat.charSpace : EncodeFormat.Statement .charSpace := rfl
theorem EncodeFormat.sentinel : EncodeFormat.Statement .sentinel := rfl
theorem EncodeFormat.putc (last : Bool) (c : Byte) : EncodeFormat.Statement (.putc last c) := rfl
theorem EncodeFormat.wrUnit (v : Word16) : EncodeFormat.Statement (.wrUnit v) := rfl
theorem EncodeFormat.wrCtrl (v : Word16) : EncodeFormat.Statement (.wrCtrl v) := rfl
theorem EncodeFormat.wrStatus (v : Word16) : EncodeFormat.Statement (.wrStatus v) := rfl
theorem EncodeFormat.wrLookup (v : Word16) : EncodeFormat.Statement (.wrLookup v) := rfl
theorem EncodeFormat.rdUnit : EncodeFormat.Statement .rdUnit := rfl
theorem EncodeFormat.rdCtrl : EncodeFormat.Statement .rdCtrl := rfl
theorem EncodeFormat.rdStatus : EncodeFormat.Statement .rdStatus := rfl
theorem EncodeFormat.rdLookup : EncodeFormat.Statement .rdLookup := rfl

end Sys2Proof.Laws
end

