-- ==== Sys2Proof/Laws/Place.lean ====
section
/-! SUPPORT. Putting a code word where one stands already changes nothing: the laws of the placing
operations, and the shape of `presented`. -/

namespace Sys2Proof.Machine

/-- The symbol of a code has that code (`30_encoding.md` R80). -/
@[simp] theorem code_ofCode (c : SymCode) : (Symbol.ofCode c).code = c := by
  revert c; decide

/-- The code of a symbol gives that symbol back. -/
@[simp] theorem ofCode_code (f : Symbol) : Symbol.ofCode f.code = f := by
  cases f <;> rfl

/-- The two top bits of a word and its other bits make the word. -/
theorem append_extract_self (w : Word16) : w.extractLsb' 14 2 ++ w.extractLsb' 0 14 = w := by
  apply BitVec.eq_of_getLsbD_eq
  intro i hi
  rw [BitVec.getLsbD_append]
  by_cases h : i < 14
  · simp [h]
  · simp [h, show i - 14 < 2 by omega, show 14 + (i - 14) = i by omega]

/-- The high part of an append. -/
theorem extract_append_high {m n : Nat} (a : BitVec m) (b : BitVec n) :
    (a ++ b).extractLsb' n m = a := by
  apply BitVec.eq_of_getLsbD_eq
  intro i hi
  simp [BitVec.getLsbD_append, hi]

/-- The low part of an append. -/
theorem extract_append_low {m n : Nat} (a : BitVec m) (b : BitVec n) :
    (a ++ b).extractLsb' 0 n = b := by
  apply BitVec.eq_of_getLsbD_eq
  intro i hi
  simp [BitVec.getLsbD_append, hi]

/-- The flag above a byte (`30_encoding.md` R85). -/
theorem getLsbD_bit_append (b : Bool) (c : Byte) : (bit b ++ c).getLsbD 8 = b := by
  rw [BitVec.getLsbD_append]
  cases b <;> rfl

/-- The symbol at the head, put at the head, changes nothing. -/
@[simp] theorem setHead_self (sr : Word16) : setHead (headSymbol sr) sr = sr := by
  simp [setHead, headSymbol, slotCode, append_extract_self]

/-- A symbol put at the head is the symbol at the head. -/
@[simp] theorem headSymbol_setHead (f : Symbol) (sr : Word16) : headSymbol (setHead f sr) = f := by
  have : slotCode (setHead f sr) 0 = f.code := by
    apply BitVec.eq_of_getLsbD_eq
    intro i hi
    have : i < 2 := hi
    simp only [slotCode, setHead, BitVec.getLsbD_extractLsb', BitVec.getLsbD_append]
    simp [hi, show ¬ (14 + i < 14) by omega]
  rw [headSymbol, this, ofCode_code]

/-- The symbol at the head, put there, leaves the state alone. -/
theorem placeSymbol_head (s : State) : s.placeSymbol (headSymbol s.sr) = s := by
  simp [State.placeSymbol]

/-- The held character put into the holding register leaves the state alone. -/
theorem placeChar_hold {s : State} (hf : s.fsm ≠ .scan) (hv : s.holdValid = true) :
    s.placeChar s.holdChar = s := by
  rw [State.placeChar, if_neg hf, ← hv]

/-- The normalised character under search put there leaves the state alone. -/
theorem placeChar_cur {s : State} (hf : s.fsm = .scan) (hn : normalize s.curChar = s.curChar) :
    s.placeChar s.curChar = s := by
  rw [State.placeChar, if_pos hf, hn]

/-- The inputs the host drives are the pins. -/
@[simp] theorem pins_drive (s : State) (p : Inputs) : (s.drive p).pins = p := rfl

/-- Only the `host` list tells a cycle's inputs: the other fields of `S` do not change the pins. -/
theorem pins_congr {s t : State} (h : s.host = t.host) (hn : s.now = t.now) : s.pins = t.pins := by
  simp [State.pins, h, hn]

end Sys2Proof.Machine
end

