-- ==== Sys2Proof/Laws/Step.lean ====
section
/-! SUPPORT. Step is one clock cycle: whichever code word fetch picks, its meaning is the cycle, since
the word already stands at its place. -/

namespace Sys2Proof.Machine

/-- The cycle of a code word: the word at its place, the other inputs as the host drives them. -/
def cycleOfWord : CodeWord → State → Result
  | .sym2 c, s => cycle (s.placeSymbol (Symbol.ofCode c))
  | .char8 c, s => cycle (s.placeChar c)
  | .charin9 w, s => clock s (putcPins (w.getLsbD 8) (w.extractLsb' 0 8) s.pins)
  | .regw18 w, s => clock s (writePins (w.extractLsb' 16 2) (w.extractLsb' 0 16) s.pins)
  | .regr2 a, s => clock s (readPins a s.pins)

/-- A symbol's meaning is the cycle with its code at `sr[15:14]`. -/
theorem exec_decodeSymbol (c : SymCode) (s : State) :
    exec (decodeSymbol c) s = cycle (s.placeSymbol (Symbol.ofCode c)) := by
  rcases c with ⟨⟨n, hn⟩⟩
  have : n = 0 ∨ n = 1 ∨ n = 2 ∨ n = 3 := by omega
  rcases this with rfl | rfl | rfl | rfl <;> rfl

/-- Every row of the character table gives the meaning of the code it matches, digits and other
characters that match their own code. -/
theorem exec_exact_row (c code : Byte) (i : Instr) (s : State)
    (hc : (c &&& (CharRow.exact code i).mask) = (CharRow.exact code i).pattern)
    (hi : exec i s = cycle (s.placeChar code)) :
    exec ((CharRow.exact code i).make (c.getLsbD 5)) s = cycle (s.placeChar c) := by
  have : c = code := by
    have h : c &&& 0xFF#8 = code := hc
    have : ∀ d : BitVec 8, d &&& 0xFF#8 = d := by decide
    rw [this] at h
    exact h
  subst this
  exact hi

/-- The same for a letter's row, which leaves bit 5 free. -/
theorem exec_letter_row (c upper : Byte) (i : Bool → Instr) (s : State)
    (hc : (c &&& (CharRow.letter upper i).mask) = (CharRow.letter upper i).pattern)
    (hi : ∀ b, exec (i b) s = cycle (s.placeChar (letterCode upper b))) :
    exec ((CharRow.letter upper i).make (c.getLsbD 5)) s = cycle (s.placeChar c) := by
  have h : c &&& 0xDF#8 = upper := hc
  have key : ∀ d : BitVec 8, letterCode (d &&& 0xDF#8) (d.getLsbD 5) = d := by decide
  have := key c
  rw [h] at this
  change exec (i (c.getLsbD 5)) s = _
  rw [hi, this]

/-- What the rows of the table give: the meaning of the row's instruction is the cycle with the
matching code at its place. -/
theorem exec_charRows (c : Byte) (s : State) :
    ∀ r ∈ charRows, (c &&& r.mask) = r.pattern →
      exec (r.make (c.getLsbD 5)) s = cycle (s.placeChar c) := by
  simp only [charRows, digitRows, letterRows, otherRows, List.cons_append, List.nil_append,
    List.forall_mem_cons]
  repeat' apply And.intro
  all_goals first
    | exact fun h => exec_exact_row c _ _ s h rfl
    | exact fun h => exec_letter_row c _ _ s h (fun b => rfl)
    | (intro r hr; cases hr)

/-- A character's meaning is the cycle with its code in the holding register or `cur_char`. -/
theorem exec_decodeChar {c : Byte} {i : Instr} (s : State) (h : decodeChar c = .ok i) :
    exec i s = cycle (s.placeChar c) := by
  unfold decodeChar at h
  split at h
  · rename_i r hr
    cases h
    exact exec_charRows c s r (List.mem_of_find?_eq_some hr) (by simpa using List.find?_some hr)
  · cases h

/-- A register write's meaning is the cycle with it on the register port. -/
theorem exec_decodeRegWrite (w : BitVec 18) (s : State) :
    exec (decodeRegWrite w) s = cycleOfWord (.regw18 w) s := by
  simp only [decodeRegWrite, cycleOfWord]
  have key : ∀ a : BitVec 2, a = 0#2 ∨ a = 1#2 ∨ a = 2#2 ∨ a = 3#2 := by decide
  rcases key (w.extractLsb' 16 2) with h | h | h | h <;> rw [h] <;> rfl

/-- A register read's meaning is the cycle with its address on the register port. -/
theorem exec_decodeRegRead (a : RegAddr) (s : State) :
    exec (decodeRegRead a) s = clock s (readPins a s.pins) := by
  have key : ∀ a : BitVec 2, a = 0#2 ∨ a = 1#2 ∨ a = 2#2 ∨ a = 3#2 := by decide
  rcases key a with rfl | rfl | rfl | rfl <;> rfl

/-- The meaning of a decoded word is the cycle with the word at its place. -/
theorem exec_eq_cycleOfWord {w : CodeWord} {i : Instr} (s : State) (h : decode w = .ok i) :
    exec i s = cycleOfWord w s := by
  cases w with
  | sym2 c => cases h; exact exec_decodeSymbol c s
  | char8 c => exact exec_decodeChar s h
  | charin9 w => cases h; rfl
  | regw18 w => cases h; exact exec_decodeRegWrite w s
  | regr2 a => cases h; exact exec_decodeRegRead a s

/-- A symbol word that stands at its place has the cycle itself as its meaning. -/
theorem cycle_placeSymbol_head (s : State) :
    cycle (s.placeSymbol (Symbol.ofCode (slotCode s.sr 0))) = cycle s := by
  rw [← headSymbol, placeSymbol_head]

/-- A core word that stands at its place has the cycle itself as its meaning. -/
theorem cycleOfWord_coreWord {s : State} {w : CodeWord} (h : coreWord s = some w) :
    cycleOfWord w s = cycle s := by
  unfold coreWord at h
  split at h
  · rename_i hf
    split at h
    · rename_i hv
      cases h
      rw [cycleOfWord, placeChar_hold (by simp [hf]) (by simp_all)]
    · cases h
  · rename_i hf
    split at h
    · rename_i hn
      cases h
      rw [cycleOfWord, placeChar_cur hf hn]
    · cases h
  all_goals first
    | (cases h; exact cycle_placeSymbol_head s)
    | cases h

/-- Every word that stands at its place in a cycle has that cycle as its meaning. -/
theorem cycleOfWord_of_mem_presented {s : State} {w : CodeWord} (h : w ∈ presented s) :
    cycleOfWord w s = cycle s := by
  simp only [presented, List.mem_append, Option.mem_toList, List.mem_singleton] at h
  rcases h with ((h | h) | h) | rfl
  · unfold writeWord at h
    split at h
    · cases h
      rename_i hw
      simp only [cycleOfWord, regPortWord, regWriteWord, cycle]
      congr 1
      simp only [writePins]
      rw [extract_append_high, extract_append_low, ← hw]
    · cases h
  · unfold putcWord at h
    split at h
    · cases h
      rename_i hv
      simp only [cycleOfWord, charInWord, cycle]
      congr 1
      simp only [putcPins]
      rw [getLsbD_bit_append, extract_append_low, ← hv]
    · cases h
  · exact cycleOfWord_coreWord h
  · rfl

end Sys2Proof.Machine
end

