-- ==== Sys2Proof/Laws/Tables.lean ====
section
/-! SUPPORT. What an aligned configuration gives (`00_scope.md` R7 (a)): every index up to `N_CHARS`
reads, the sentinel stands at `N_CHARS` only, and every ordinal has a record. -/

namespace Sys2Proof.Machine

/-- The parts of `TableAligned`. -/
theorem tableAligned_iff (cfg : Config) : tableAligned cfg = true ↔
    cfg.charRom.addresses = List.range (cfg.nChars + 1)
    ∧ cfg.charRom.read cfg.nChars = some cfg.sentinel
    ∧ (∀ i, i < cfg.nChars → cfg.charRom.read i ≠ some cfg.sentinel)
    ∧ cfg.recRom.addresses = List.range (2 * cfg.nChars) := by
  simp [tableAligned, and_assoc]

/-- Every index up to `N_CHARS` of an aligned character table reads. -/
theorem aligned_charRom_reads {cfg : Config} (h : tableAligned cfg = true) {i : Nat}
    (hi : i ≤ cfg.nChars) : ∃ c, cfg.charRom.read i = some c := by
  have := (read_isSome_iff cfg.charRom i).2 (by
    rw [((tableAligned_iff cfg).1 h).1]; exact List.mem_range.2 (by omega))
  exact Option.isSome_iff_exists.1 this

/-- In an aligned table the sentinel is read at index `N_CHARS` and at no lower index. -/
theorem aligned_sentinel_iff {cfg : Config} (h : tableAligned cfg = true) {i : Nat}
    (hi : i ≤ cfg.nChars) : cfg.charRom.read i = some cfg.sentinel ↔ i = cfg.nChars := by
  obtain ⟨-, h1, h2, -⟩ := (tableAligned_iff cfg).1 h
  constructor
  · intro hr
    by_contra hne
    exact h2 i (by omega) hr
  · rintro rfl
    exact h1

/-- Every ordinal of an aligned configuration has a record. -/
theorem aligned_recWord {cfg : Config} (h : tableAligned cfg = true) {i : Nat}
    (hi : i < cfg.nChars) : ∃ w, recWord cfg i = some w := by
  have hr := ((tableAligned_iff cfg).1 h).2.2.2
  have h0 := (read_isSome_iff cfg.recRom (2 * i)).2 (by rw [hr]; exact List.mem_range.2 (by omega))
  have h1 := (read_isSome_iff cfg.recRom (2 * i + 1)).2 (by rw [hr]; exact List.mem_range.2 (by omega))
  obtain ⟨hi', h0⟩ := Option.isSome_iff_exists.1 h0
  obtain ⟨lo, h1⟩ := Option.isSome_iff_exists.1 h1
  exact ⟨hi' ++ lo, (recWord_eq_some _ _ _).2 ⟨_, _, h0, h1, rfl⟩⟩

/-- The bound that a supported configuration puts on `N_CHARS` (R7 (b)). -/
theorem supported_bound {cfg : Config} (h : supported cfg = true) : cfg.nChars + 1 ≤ 64 := by
  simpa [supported, IDX_W, UNIT_W, CNT_W] using h

/-- The spec's configuration is inside the spec. -/
theorem specConfig_supported : supported specConfig = true := by decide

end Sys2Proof.Machine
end

