-- ==== Sys2Proof/Laws/Traces.lean ====
section
/-! SUPPORT. Runs and their traces: the fields of joined traces, what a run of one more cycle is, and
that a run in two parts joins their traces. -/

namespace Sys2Proof.Machine

@[simp] theorem append_events (a b : Traces) : (a.append b).events = a.events ++ b.events := rfl
@[simp] theorem append_ticks (a b : Traces) : (a.append b).ticks = a.ticks ++ b.ticks := rfl
@[simp] theorem append_dones (a b : Traces) : (a.append b).dones = a.dones ++ b.dones := rfl
@[simp] theorem append_inputs (a b : Traces) : (a.append b).inputs = a.inputs ++ b.inputs := rfl
@[simp] theorem append_marks (a b : Traces) : (a.append b).marks = a.marks ++ b.marks := rfl
@[simp] theorem append_failures (a b : Traces) : (a.append b).failures = a.failures ++ b.failures := rfl
@[simp] theorem append_loadUnits (a b : Traces) : (a.append b).loadUnits = a.loadUnits ++ b.loadUnits := rfl

/-- No cycles before some traces add nothing. -/
@[simp] theorem none_append (a : Traces) : Traces.none.append a = a := rfl

/-- No cycles after some traces add nothing. -/
@[simp] theorem append_none (a : Traces) : a.append .none = a := by
  simp [Traces.append, Traces.none]

/-- Joining traces is associative. -/
theorem append_assoc (a b c : Traces) : (a.append b).append c = a.append (b.append c) := by
  simp [Traces.append]

/-- A run of one more cycle is a step and the run after it. -/
theorem runTraces_succ_iff (n : Nat) (s u : State) (tr : Traces) :
    runTraces (n + 1) s = some (u, tr) ↔
      ∃ t later, step s = .next t ∧ runTraces n t = some (u, later) ∧ tr = (cycleTraces s t).append later := by
  rw [runTraces]
  cases step s with
  | next t =>
    cases h : runTraces n t with
    | none => simp [h]
    | some r =>
      obtain ⟨v, later⟩ := r
      simp only [h, Option.some.injEq, Prod.mk.injEq, Host.Outcome.next.injEq]
      constructor
      · rintro ⟨rfl, rfl⟩
        exact ⟨t, later, rfl, h, rfl⟩
      · rintro ⟨_, l, rfl, h', rfl⟩
        rw [h] at h'
        cases h'
        exact ⟨rfl, rfl⟩
  | fault r => simp
  | refused r => simp

/-- A run in two parts. -/
theorem runTraces_add {m n : Nat} {s t u : State} {a b : Traces}
    (ha : runTraces m s = some (t, a)) (hb : runTraces n t = some (u, b)) :
    runTraces (m + n) s = some (u, a.append b) := by
  induction m generalizing s a with
  | zero =>
    cases ha
    simpa using hb
  | succ m ih =>
    obtain ⟨v, later, hs, hr, rfl⟩ := (runTraces_succ_iff m s t a).1 ha
    rw [show m + 1 + n = m + n + 1 by omega, runTraces_succ_iff]
    exact ⟨v, later.append b, hs, ih hr, append_assoc _ _ _⟩

/-- A run without its traces. -/
theorem runTraces_state (n : Nat) (s : State) :
    (runTraces n s).map Prod.fst = runSteps n s := by
  induction n generalizing s with
  | zero => rfl
  | succ n ih =>
    rw [runTraces, runSteps]
    cases step s with
    | next t =>
      simp only [← ih t]
      cases runTraces n t <;> rfl
    | fault r => rfl
    | refused r => rfl

/-- The interleaved trace of one cycle gives its event trace and its done trace. -/
theorem cycleTraces_marks (s t : State) :
    Mark.events (cycleTraces s t).marks = (cycleTraces s t).events
    ∧ Mark.dones (cycleTraces s t).marks = (cycleTraces s t).dones := by
  simp only [cycleTraces, Mark.events, Mark.dones]
  split <;> split <;> simp

/-- The prefix of a message without failed lookups in it is the message. -/
theorem resolveMessage_known (cfg : Config) (message : List Byte) (failures : List (Byte × Mode))
    (h : ∀ c ∈ message, known cfg c = true) : resolveMessage cfg message failures = (message, failures) := by
  induction message with
  | nil => rfl
  | cons c rest ih =>
    have hc := h c (by simp)
    have hr := ih (fun d hd => h d (by simp [hd]))
    simp [resolveMessage, hc, hr]

end Sys2Proof.Machine
end

