-- ==== Sys2Proof/Tests/Slice0.lean ====
section
/-! SUPPORT. The model's own tests: refusals of ill-formed terms, decoding of words written out from
`30_encoding.md` and `46_char_table.md`, single steps whose results are computed from the rules or
taken from `95_test_vectors.md`, and one witness for every statement that has hypotheses. -/

namespace Sys2Proof.Tests

open Sys2Proof Sys2Proof.Machine Sys2Proof.Claims

/-! ## Helpers -/

/-- The next state of a result has the property `p`. -/
def after (r : Result) (p : State → Bool) : Bool :=
  match r with
  | .next t => p t
  | _ => false

/-- A result that passes a check of its next state has a next state. -/
theorem exists_of_after {r : Result} {p : State → Bool} (h : after r p = true) :
    ∃ t, r = .next t ∧ p t = true := by
  cases r with
  | next t => exact ⟨t, rfl, h⟩
  | fault r => cases h
  | refused r => cases h

/-- The reset state with the control state `f`, the host driving `p` now. -/
def inState (f : Fsm) (p : Inputs) : State := { State.reset with fsm := f, host := [p] }

/-- Only the tick input is active. -/
def ticking : Inputs := { Inputs.quiet with tick := true }

/-- The host writes `v` to register `a`. -/
def writing (a : RegAddr) (v : Word16) : Inputs :=
  { Inputs.quiet with regWe := true, regAddr := a, regWdata := v }

/-- A DOT event that still counts `n` ticks, its record being that of `E`. -/
def dotRunning (n : Nat) (p : Inputs) : State :=
  { inState .tSym p with sr := 0x4000#16, evOn := true, evUnits := 1#3, evTicks := 5#19,
                         cnt := BitVec.ofNat 19 n }

/-- A 1-unit gap that still counts `n` ticks before a DASH. -/
def gapRunning (n : Nat) (p : Inputs) : State :=
  { inState .tGap p with sr := 0x8000#16, slot := 1#4, evOn := false, evUnits := 1#3, evTicks := 5#19,
                         cnt := BitVec.ofNat 19 n, havePrev := true }

/-- A table with the one character `E`, and unit 0. -/
def tiny : Config :=
  { nChars := 1, sentinel := 0x00#8, charRom := Memory.ofBytes 0 [0x45#8, 0x00#8],
    recRom := Memory.ofBytes 0 [0x40#8, 0x00#8], resetUnit := 0#16, resetLenient := false,
    wbAbsorb := false }

/-- A table that is one byte short. -/
def misaligned : Config := { tiny with recRom := Memory.ofBytes 0 [0x40#8] }

/-- The invariants as one check. -/
def invCheck (s : State) : Bool :=
  decide (supported s.cfg = true) && decide (s.fatal = !tableAligned s.cfg)
  && decide (s.slot.toNat ≤ 8) && decide (s.idx.toNat ≤ s.cfg.nChars)
  && decide (s.evUnits = 0#3 ∨ s.evUnits = 1#3 ∨ s.evUnits = 3#3 ∨ s.evUnits = 7#3)
  && decide (s.evTicks.toNat ≤ 7 * (2 ^ UNIT_W - 1)) && decide (s.cnt.toNat ≤ s.evTicks.toNat)
  && decide (s.fsm = .tGap → s.evOn = false)
  && decide (s.fsm = .tSym → headSymbol s.sr ≠ .terminator ∧ s.slot.toNat ≤ 7)
  && decide (s.fsm = .tSym → (s.evOn = true ↔ headSymbol s.sr = .dot ∨ headSymbol s.sr = .dash))
  && decide (s.fsm = .tGap → headSymbol s.sr ≠ .terminator ∧ s.slot.toNat ≤ 7 ∧ s.havePrev = true)
  && decide (s.skip = true → s.errMsg = true)
  && decide (s.fatal = true → s.fsm = .idle ∧ s.holdValid = false)
  && decide (s.evStb = true → s.fsm = .tGap ∨ s.fsm = .tSym)

/-- A state that passes the check meets the invariants. -/
theorem inv_of_check {s : State} (h : invCheck s = true) : Inv s := by
  simp only [invCheck, Bool.and_eq_true, decide_eq_true_eq] at h
  obtain ⟨⟨⟨⟨⟨⟨⟨⟨⟨⟨⟨⟨⟨h1, h2⟩, h3⟩, h4⟩, h5⟩, h6⟩, h7⟩, h8⟩, h9⟩, h10⟩, h11⟩, h12⟩, h13⟩, h14⟩ := h
  exact ⟨h1, h2, h3, h4, h5, h6, h7, h8, h9, h10, h11, h12, h13, h14⟩

/-! ## WellFormed: each check refuses an ill-formed term -/

/-- R7 (a): a record ROM one byte short. -/
theorem test_wellFormed_refuses_misaligned_records : misaligned.wellFormed = false := by decide
/-- R7 (a): a sentinel in the middle of the character table. -/
theorem test_wellFormed_refuses_early_sentinel :
    { tiny with sentinel := 0x45#8 }.wellFormed = false := by decide
/-- R7 (a): a character table without its sentinel. -/
theorem test_wellFormed_refuses_missing_sentinel :
    { tiny with charRom := Memory.ofBytes 0 [0x45#8] }.wellFormed = false := by decide
/-- R7 (a): a character table with a byte after its sentinel. -/
theorem test_wellFormed_refuses_extra_character :
    { tiny with charRom := Memory.ofBytes 0 [0x45#8, 0x00#8, 0x41#8] }.wellFormed = false := by decide
/-- R7 (b): 65 entries do not fit 6 bits of index; 64 do. -/
theorem test_supported_bound :
    supported { tiny with nChars := 64 } = false ∧ supported { tiny with nChars := 63 } = true := by decide
/-- The configurations of R6 and of these tests are well formed. -/
theorem test_wellFormed_accepts : specConfig.wellFormed = true ∧ tiny.wellFormed = true := by decide
/-- R119: nine symbols, or a TERMINATOR, are no valid sequence. -/
theorem test_validSymbols_refuses :
    validSymbols (List.replicate 9 .dot) = false ∧ validSymbols [.dot, .terminator] = false
    ∧ validSymbols (List.replicate 8 .dash) = true := by decide
/-- R80 to R87: a number one bit too wide for each format. -/
theorem test_wordFits_refuses :
    wordFits .sym2 4 = false ∧ wordFits .char8 256 = false ∧ wordFits .charin9 512 = false
    ∧ wordFits .regw18 262144 = false ∧ wordFits .regr2 4 = false ∧ wordFits .regw18 262143 = true := by decide
/-- R124: a record with eight symbols has no TERMINATOR slot. -/
theorem test_recordWellFormed_refuses :
    recordWellFormed 0x5555#16 = false ∧ recordWellFormed 0x5554#16 = true := by decide
/-- A letter's word stands in its row's format. -/
theorem test_instr_wellFormed : (Instr.charA true).wellFormed = true ∧ Instr.rdLookup.wellFormed = true := by decide

/-! ## Decode: words written out from the encodings -/

/-- R80, R112 to R115. -/
theorem test_decode_symbols :
    decode (.sym2 0b00#2) = .ok .terminator
    ∧ decode (.sym2 0b01#2) = .ok .dot
    ∧ decode (.sym2 0b10#2) = .ok .dash
    ∧ decode (.sym2 0b11#2) = .ok .wordBreak := by
  decide

/-- R83, R400 to R409. -/
theorem test_decode_digits :
    decode (.char8 0b00110000#8) = .ok .char0
    ∧ decode (.char8 0b00110001#8) = .ok .char1
    ∧ decode (.char8 0b00110010#8) = .ok .char2
    ∧ decode (.char8 0b00110011#8) = .ok .char3
    ∧ decode (.char8 0b00110100#8) = .ok .char4
    ∧ decode (.char8 0b00110101#8) = .ok .char5
    ∧ decode (.char8 0b00110110#8) = .ok .char6
    ∧ decode (.char8 0b00110111#8) = .ok .char7
    ∧ decode (.char8 0b00111000#8) = .ok .char8
    ∧ decode (.char8 0b00111001#8) = .ok .char9 := by
  decide

/-- R83, R410 to R435, bit 5 clear. -/
theorem test_decode_upper_letters :
    decode (.char8 0b01000001#8) = .ok (.charA false)
    ∧ decode (.char8 0b01000010#8) = .ok (.charB false)
    ∧ decode (.char8 0b01000011#8) = .ok (.charC false)
    ∧ decode (.char8 0b01000100#8) = .ok (.charD false)
    ∧ decode (.char8 0b01000101#8) = .ok (.charE false)
    ∧ decode (.char8 0b01000110#8) = .ok (.charF false)
    ∧ decode (.char8 0b01000111#8) = .ok (.charG false)
    ∧ decode (.char8 0b01001000#8) = .ok (.charH false)
    ∧ decode (.char8 0b01001001#8) = .ok (.charI false)
    ∧ decode (.char8 0b01001010#8) = .ok (.charJ false)
    ∧ decode (.char8 0b01001011#8) = .ok (.charK false)
    ∧ decode (.char8 0b01001100#8) = .ok (.charL false)
    ∧ decode (.char8 0b01001101#8) = .ok (.charM false)
    ∧ decode (.char8 0b01001110#8) = .ok (.charN false)
    ∧ decode (.char8 0b01001111#8) = .ok (.charO false)
    ∧ decode (.char8 0b01010000#8) = .ok (.charP false)
    ∧ decode (.char8 0b01010001#8) = .ok (.charQ false)
    ∧ decode (.char8 0b01010010#8) = .ok (.charR false)
    ∧ decode (.char8 0b01010011#8) = .ok (.charS false)
    ∧ decode (.char8 0b01010100#8) = .ok (.charT false)
    ∧ decode (.char8 0b01010101#8) = .ok (.charU false)
    ∧ decode (.char8 0b01010110#8) = .ok (.charV false)
    ∧ decode (.char8 0b01010111#8) = .ok (.charW false)
    ∧ decode (.char8 0b01011000#8) = .ok (.charX false)
    ∧ decode (.char8 0b01011001#8) = .ok (.charY false)
    ∧ decode (.char8 0b01011010#8) = .ok (.charZ false) := by
  decide

/-- R83, R410 to R435, bit 5 set. -/
theorem test_decode_lower_letters :
    decode (.char8 0b01100001#8) = .ok (.charA true)
    ∧ decode (.char8 0b01100010#8) = .ok (.charB true)
    ∧ decode (.char8 0b01100011#8) = .ok (.charC true)
    ∧ decode (.char8 0b01100100#8) = .ok (.charD true)
    ∧ decode (.char8 0b01100101#8) = .ok (.charE true)
    ∧ decode (.char8 0b01100110#8) = .ok (.charF true)
    ∧ decode (.char8 0b01100111#8) = .ok (.charG true)
    ∧ decode (.char8 0b01101000#8) = .ok (.charH true)
    ∧ decode (.char8 0b01101001#8) = .ok (.charI true)
    ∧ decode (.char8 0b01101010#8) = .ok (.charJ true)
    ∧ decode (.char8 0b01101011#8) = .ok (.charK true)
    ∧ decode (.char8 0b01101100#8) = .ok (.charL true)
    ∧ decode (.char8 0b01101101#8) = .ok (.charM true)
    ∧ decode (.char8 0b01101110#8) = .ok (.charN true)
    ∧ decode (.char8 0b01101111#8) = .ok (.charO true)
    ∧ decode (.char8 0b01110000#8) = .ok (.charP true)
    ∧ decode (.char8 0b01110001#8) = .ok (.charQ true)
    ∧ decode (.char8 0b01110010#8) = .ok (.charR true)
    ∧ decode (.char8 0b01110011#8) = .ok (.charS true)
    ∧ decode (.char8 0b01110100#8) = .ok (.charT true)
    ∧ decode (.char8 0b01110101#8) = .ok (.charU true)
    ∧ decode (.char8 0b01110110#8) = .ok (.charV true)
    ∧ decode (.char8 0b01110111#8) = .ok (.charW true)
    ∧ decode (.char8 0b01111000#8) = .ok (.charX true)
    ∧ decode (.char8 0b01111001#8) = .ok (.charY true)
    ∧ decode (.char8 0b01111010#8) = .ok (.charZ true) := by
  decide

/-- R83, R436 to R440. -/
theorem test_decode_other_characters :
    decode (.char8 0b00101110#8) = .ok .charPeriod
    ∧ decode (.char8 0b00101111#8) = .ok .charSlash
    ∧ decode (.char8 0b00111111#8) = .ok .charQuestion
    ∧ decode (.char8 0b00100000#8) = .ok .charSpace
    ∧ decode (.char8 0b00000000#8) = .ok .sentinel := by
  decide

/-- The codes next to the ranges, and `#`, match no row (R83, R91, R133). -/
theorem test_decode_refuses_neighbours :
    decode (.char8 0b00111010#8) = .error (.unknownCharacter 0b00111010#8)
    ∧ decode (.char8 0b01000000#8) = .error (.unknownCharacter 0b01000000#8)
    ∧ decode (.char8 0b01011011#8) = .error (.unknownCharacter 0b01011011#8)
    ∧ decode (.char8 0b01100000#8) = .error (.unknownCharacter 0b01100000#8)
    ∧ decode (.char8 0b01111011#8) = .error (.unknownCharacter 0b01111011#8)
    ∧ decode (.char8 0b00100011#8) = .error (.unknownCharacter 0b00100011#8)
    ∧ decode (.char8 0b10000000#8) = .error (.unknownCharacter 0b10000000#8) := by
  decide

/-- R85 to R87, R204, R209 to R218. -/
theorem test_decode_host_operations :
    decode (.charin9 0b001000101#9) = .ok (.putc false 0x45#8)
    ∧ decode (.charin9 0b100000000#9) = .ok (.putc true 0x00#8)
    ∧ decode (.regw18 0b000000000001100100#18) = .ok (.wrUnit 100#16)
    ∧ decode (.regw18 0b010000000000000010#18) = .ok (.wrCtrl 0x0002#16)
    ∧ decode (.regw18 0b100000000000000010#18) = .ok (.wrStatus 0x0002#16)
    ∧ decode (.regw18 0b111000000000000001#18) = .ok (.wrLookup 0x8001#16)
    ∧ decode (.regr2 0b00#2) = .ok .rdUnit
    ∧ decode (.regr2 0b01#2) = .ok .rdCtrl
    ∧ decode (.regr2 0b10#2) = .ok .rdStatus
    ∧ decode (.regr2 0b11#2) = .ok .rdLookup := by
  decide

/-- Words of the opcode table with the widths it gives its rows (log entry 3 says which 8-bit row wins). -/
theorem test_decodeTableWord :
    decodeTableWord 8 0x02 = some .dash
    ∧ decodeTableWord 8 0x03 = some .wordBreak
    ∧ decodeTableWord 8 0x61 = some (.charA true)
    ∧ decodeTableWord 8 0x23 = none
    ∧ decodeTableWord 16 0x0145 = some (.putc true 0x45#8)
    ∧ decodeTableWord 24 0x010003 = some (.wrCtrl 0x0003#16)
    ∧ decodeTableWord 24 0x020002 = some (.wrStatus 0x0002#16) := by
  decide

/-! ## The functional layer on the spec's own examples -/

/-- `43_timing.md` R180, `95_test_vectors.md` V48, V59: the largest product, and 3 * 100. -/
theorem test_ratioTicks : ratioTicks 7#3 0xFFFF#16 = 458745#19 ∧ ratioTicks 3#3 100#16 = 300#19
    ∧ ratioTicks 1#3 0#16 = 0#19 := by decide
/-- V20 rows, R111, R116, R117. -/
theorem test_unpack : unpack 0x6000#16 = [.dot, .dash] ∧ unpack 0x60FF#16 = [.dot, .dash]
    ∧ unpack 0x0000#16 = [] ∧ unpack 0x5555#16 = List.replicate 8 .dot := by decide
/-- V21 rows, R118. -/
theorem test_pack : pack [.dot, .dash] = .ok 0x6000#16 ∧ pack [.wordBreak] = .ok 0xC000#16
    ∧ pack (List.replicate 9 .dot) = .error (.recordOverflow 9) := by decide
/-- R96: `PACK4` of the first four symbols of `.` is its first record byte (R436). -/
theorem test_pack4 : pack4 .dot .dash .dot .dash = 0x66#8 := by decide
/-- V23: the ends of the lowercase range and their neighbours. -/
theorem test_normalize : normalize 0x61#8 = 0x41#8 ∧ normalize 0x7A#8 = 0x5A#8
    ∧ normalize 0x60#8 = 0x60#8 ∧ normalize 0x7B#8 = 0x7B#8 := by decide
/-- V24: the first and the last ordinal, and an unsupported character. -/
theorem test_indexOf : indexOf specConfig 0x30#8 = .ok 0 ∧ indexOf specConfig 0x20#8 = .ok 39
    ∧ indexOf specConfig 0x23#8 = .error (.unknownCharacter 0x23#8 none) := by decide
/-- V43, V44: a word break between two characters, under both values of `WB_ABSORB`. -/
theorem test_toEvents_word_break :
    toEvents false [[.dot], [.wordBreak], [.dot]]
      = [⟨true, 1#3⟩, ⟨false, 3#3⟩, ⟨false, 7#3⟩, ⟨false, 3#3⟩, ⟨true, 1#3⟩]
    ∧ toEvents true [[.dot], [.wordBreak], [.dot]] = [⟨true, 1#3⟩, ⟨false, 7#3⟩, ⟨true, 1#3⟩] := by decide

/-! ## Single steps -/

/-- R88: an on-event of 3 units and 300 ticks as a word. -/
theorem test_eventWord :
    eventWord { (outputs State.reset 0#2) with evOn := true, evUnits := 3#3, evTicks := 300#19 }
      = 0b10110000000000100101100#23 := by decide
/-- R237, R182: a tick counts the event of the symbol at the head down, without a tick it keeps. -/
theorem test_dot_counts : after (exec .dot (dotRunning 5 ticking)) (fun t => t.cnt == 4#19 && keyOut t)
    ∧ after (exec .dot (dotRunning 5 .quiet)) (fun t => t.cnt == 5#19) := by decide
/-- R235, R172: at a character boundary a 3-unit gap comes first; R181 with UNIT = 100. -/
theorem test_dash_gap :
    after (exec .dash { inState .unpack ticking with havePrev := true, firstSym := true, unit := 100#16 })
      (fun t => t.fsm == .tGap && t.evTicks == 300#19 && !t.evOn && t.evStb) := by decide
/-- R235: the first DASH of a message starts at once, for 3 units, and the key rises. -/
theorem test_dash_first :
    after (exec .dash { inState .unpack ticking with unit := 100#16 })
      (fun t => t.fsm == .tSym && t.cnt == 300#19 && t.evUnits == 3#3 && keyOut t) := by decide
/-- R237: the record moves up by one symbol when the WORD_BREAK has expired. -/
theorem test_wordBreak_expires :
    after (exec .wordBreak { inState .tSym .quiet with sr := 0xE400#16, slot := 2#4 })
      (fun t => t.sr == 0x9000#16 && t.slot == 3#4 && t.prevWb && t.fsm == .unpack) := by decide
/-- R235, R112: TERMINATOR after the last character of a message goes to DONE. -/
theorem test_terminator_last :
    after (exec .terminator { inState .unpack .quiet with curLast := true, sr := 0x2ABC#16, slot := 3#4 })
      (fun t => t.fsm == .done && t.sr == 0x2ABC#16 && t.slot == 3#4) := by decide
/-- R410, V24: `A` at its ordinal loads its record, and LOOKUP reads 0x418A. -/
theorem test_charA_found :
    after (exec (.charA true) { inState .scan .quiet with idx := 10#6 })
      (fun t => t.sr == 0x6000#16 && t.fsm == .unpack && regRead t 3#2 == 0x418A#16) := by decide
/-- V65, R217: a failed strict message; STATUS shows BUSY, UNK and SKIP while a character is held. -/
theorem test_unknown_strict :
    after (exec .sentinel { inState .scan { Inputs.quiet with inValid := true, inChar := 0x45#8 } with idx := 40#6 })
      (fun t => t.errMsg && t.fsm == .idle && regRead t 2#2 == 0x000B#16) := by decide
/-- V54, R36: a search that fails in the cycle of a `WR STATUS, 2` leaves `unk` set. -/
theorem test_set_beats_clear :
    after (exec (.wrStatus 0x0002#16) { inState .scan .quiet with idx := 40#6, curChar := 0x23#8 })
      (fun t => t.unk) ∧ after (exec (.wrStatus 0x0002#16) { inState .idle .quiet with unk := true })
      (fun t => !t.unk) := by decide
/-- V60, R315: a character transferred in the cycle of an ABORT is lost. -/
theorem test_abort_discards_transfer :
    after (exec (.wrCtrl 0x0002#16) (inState .idle { Inputs.quiet with inValid := true, inChar := 0x45#8 }))
      (fun t => !t.holdValid && t.fsm == .idle && inReady t) := by decide
/-- R204: PUTC.L fills the holding register with the code as given, or is not taken when it is full. -/
theorem test_putc :
    after (exec (.putc true 0x65#8) (inState .idle .quiet))
      (fun t => t.holdValid && t.holdChar == 0x65#8 && t.holdLast && t.fsm == .idle)
    ∧ after (exec (.putc true 0x65#8) { inState .tSym ticking with holdValid := true, holdChar := 0x54#8 })
      (fun t => t.holdChar == 0x54#8 && !t.holdLast) := by decide
/-- V51, R208: the write is seen from the next cycle on; R215: the read shows the old value. -/
theorem test_write_unit :
    after (exec (.wrUnit 0x1234#16) (inState .idle .quiet))
      (fun t => t.unit == 0x1234#16 && t.out.regRdata == 0x0001#16) := by decide
/-- R300, R273, V67: a reset with tables that are not aligned is fatal, and STATUS reads 4. -/
theorem test_reset_fatal :
    after (step { State.reset with cfg := misaligned, host := [{ Inputs.quiet with rst := true }] })
      (fun t => t.fatal && regRead t 2#2 == 0x0004#16 && !inReady t) := by decide
/-- The states of `withFetchWord` run the instruction of the word, one for each format. -/
theorem test_withFetchWord :
    after (step (State.reset.withFetchWord 8 0x02)) (fun t => t.fsm == .tSym && t.evUnits == 3#3)
    ∧ after (step (State.reset.withFetchWord 8 0x61)) (fun t => t.fsm == .scan && t.curChar == 0x41#8)
    ∧ after (step (State.reset.withFetchWord 16 0x0145)) (fun t => t.holdChar == 0x45#8 && t.holdLast)
    ∧ after (step (State.reset.withFetchWord 24 0x010001)) (fun t => t.lenient) := by decide
/-- Fetch reads that instruction. -/
theorem test_fetch :
    fetch (State.reset.withFetchWord 8 0x02) = .dash
    ∧ fetch (State.reset.withFetchWord 8 0x61) = .charA true
    ∧ fetch (State.reset.withFetchWord 16 0x0145) = .putc true 0x45#8
    ∧ fetch (State.reset.withFetchWord 24 0x020002) = .wrStatus 0x0002#16 := by decide
/-- R96: the expansion of `PUTS "SOS"`, and ABORT in lenient mode. -/
theorem test_pseudo :
    pseudoPuts [0x53#8, 0x4F#8, 0x53#8] = [.putc false 0x53#8, .putc false 0x4F#8, .putc true 0x53#8]
    ∧ pseudoAbort { State.reset with lenient := true } = .wrCtrl 0x0003#16 := by decide

/-! ## Witnesses: states and operands that meet the hypotheses of each statement -/

theorem witness_DecodedWordsEncodeBack : decode (.char8 0x7A#8) = .ok (.charZ true) := by decide

theorem witness_CharacterRowsAgreeWithSearch :
    (decode (.char8 0x20#8) = .ok .charSpace ∧ Instr.charSpace ≠ .sentinel)
    ∧ decode (.char8 0x00#8) = .ok .sentinel
    ∧ decode (.char8 0xFF#8) = .error (.unknownCharacter 0xFF#8) := by decide

/-- A cycle in which four code words stand at their places. -/
theorem witness_StepRunsThePresentedInstruction :
    presented { inState .idle { writing 0#2 7#16 with inValid := true, inChar := 0x41#8 } with
        holdValid := true, holdChar := 0x7A#8 }
      = [.regw18 7#18, .charin9 0x41#9, .char8 0x7A#8, .regr2 0#2]
    ∧ decode (.regw18 7#18) = .ok (.wrUnit 7#16) ∧ decode (.charin9 0x41#9) = .ok (.putc false 0x41#8)
    ∧ decode (.char8 0x7A#8) = .ok (.charZ true) ∧ decode (.regr2 0#2) = .ok .rdUnit := by decide

/-- The three clauses at both ends: 0 symbols, and 8. -/
theorem witness_UnpackGivesTheLeadingSlots :
    (unpack 0x0FFF#16).length = 0 ∧ (unpack 0xAAAA#16).length = 8 ∧ 7 < (unpack 0xAAAA#16).length
    ∧ (unpack 0xAAA8#16).length < 8 := by decide

theorem witness_UnpackIgnoresSlotsAfterTerminator :
    (∀ k, k ≤ (unpack 0x60FF#16).length → k < 8 → slotCode 0x60FF#16 k = slotCode 0x6000#16 k)
    ∧ ∀ k, k ≤ (unpack 0x5555#16).length → k < 8 → slotCode 0x5555#16 k = slotCode 0x5555#16 k := by
  constructor
  · intro k hk _
    have hk' : k < 3 := by
      have : (unpack 0x60FF#16).length = 2 := by decide
      omega
    revert k
    decide
  · exact fun _ _ _ => rfl

theorem witness_UnpackAfterPackIsIdentity :
    (List.replicate 8 Symbol.wordBreak).length ≤ 8 ∧ Symbol.terminator ∉ List.replicate 8 Symbol.wordBreak := by
  decide

theorem witness_PackAfterUnpackClearsThePadding :
    (∀ k, (unpack 0x6000#16).length ≤ k → k < 8 → slotCode 0x6000#16 k = 0#2)
    ∧ slotCode 0x60FF#16 7 ≠ 0#2 := by
  constructor
  · intro k _ hk
    have : ∀ k, k < 8 → 2 ≤ k → slotCode 0x6000#16 k = 0#2 := by decide
    exact this k hk (by have : (unpack 0x6000#16).length = 2 := by decide
                        omega)
  · decide

theorem witness_PackFillsSlotsOrOverflows :
    8 < (List.replicate 9 Symbol.dot).length ∧ (List.replicate 8 Symbol.dot).length ≤ 8 := by decide

theorem witness_IndexOfGivesTheFirstMatch :
    tableAligned specConfig = true ∧ indexOf specConfig 0x39#8 = .ok 9 := by decide

theorem witness_IndexOfFailsForAbsentCharacters :
    tableAligned specConfig = true
    ∧ indexOf specConfig 0x5B#8 = .error (.unknownCharacter (normalize 0x5B#8) none)
    ∧ normalize 0x00#8 = specConfig.sentinel := by decide

theorem witness_EncodeTextStrictAndLenient :
    tableAligned specConfig = true
    ∧ (∀ c ∈ [0x53#8, 0x7A#8, 0x20#8], known specConfig c = true)
    ∧ [0x53#8, 0x23#8, 0x4F#8] = [0x53#8] ++ 0x23#8 :: [0x4F#8]
    ∧ (∀ d ∈ [0x53#8], known specConfig d = true) ∧ known specConfig 0x23#8 = false := by decide

theorem witness_ToEventsFollowsTheGapRule :
    ∀ g ∈ [[Symbol.dot, .dash], [], [.wordBreak], [.dot]], Symbol.terminator ∉ g := by decide

theorem witness_LiteralEventsCountAndEnds :
    (∀ g ∈ [[Symbol.dash]], Symbol.terminator ∉ g) ∧ flattenGroups [[Symbol.dash]] ≠ [] := by decide

theorem witness_OnEventsAreNeverAdjacent :
    (∀ g ∈ [[Symbol.dot, .dash]], Symbol.terminator ∉ g)
    ∧ (toEvents true [[Symbol.dot, .dash]])[0]? = some ⟨true, 1#3⟩
    ∧ (toEvents true [[Symbol.dot, .dash]])[1]? = some ⟨false, 1#3⟩ := by decide

/-- One set of inputs for each clause. -/
theorem witness_CycleEndsWithWriteAndAbort :
    Inputs.quiet.regWe = false
    ∧ (∀ a : RegAddr, (writing a 1#16).regWe = true ∧ (writing a 1#16).regAddr = a)
    ∧ (writing 1#2 0xFFFD#16).regWdata.getLsbD 1 = false ∧ (writing 1#2 2#16).regWdata.getLsbD 1 = true := by
  decide

theorem witness_IdleTakesOrDropsTheHeldCharacter :
    (let s := inState .idle ticking
     supported s.cfg = true ∧ s.pins.rst = false ∧ s.fsm = .idle ∧ s.holdValid = false)
    ∧ (let s := { inState .idle ticking with holdValid := true, skip := true }
       s.pins.rst = false ∧ s.fsm = .idle ∧ s.holdValid = true ∧ s.skip = true)
    ∧ (let s := { inState .idle ticking with holdValid := true }
       s.pins.rst = false ∧ s.fsm = .idle ∧ s.holdValid = true ∧ s.skip = false)
    ∧ (let s := { inState .idle ticking with fatal := true }
       supported s.cfg = true ∧ s.pins.rst = false ∧ s.fsm = .idle ∧ s.fatal = true ∧ s.holdValid = false) := by
  decide

theorem witness_ScanComparesOneEntry :
    (let s := { inState .scan ticking with idx := 40#6 }
     supported s.cfg = true ∧ s.pins.rst = false ∧ s.fsm = .scan
       ∧ s.cfg.charRom.read s.idx.toNat = some s.cfg.sentinel ∧ s.lenient = false)
    ∧ (let s := { inState .scan ticking with idx := 40#6, lenient := true }
       s.pins.rst = false ∧ s.cfg.charRom.read s.idx.toNat = some s.cfg.sentinel ∧ s.lenient = true)
    ∧ (let s := { inState .scan ticking with idx := 39#6, curChar := 0x20#8 }
       s.pins.rst = false ∧ s.cfg.charRom.read s.idx.toNat = some 0x20#8 ∧ 0x20#8 ≠ s.cfg.sentinel
         ∧ 0x20#8 = s.curChar ∧ recWord s.cfg s.idx.toNat = some 0xC000#16)
    ∧ (let s := { inState .scan ticking with idx := 0#6, curChar := 0x20#8 }
       s.pins.rst = false ∧ s.cfg.charRom.read s.idx.toNat = some 0x30#8 ∧ 0x30#8 ≠ s.cfg.sentinel
         ∧ 0x30#8 ≠ s.curChar) := by decide

theorem witness_DoneClosesTheMessage :
    let s := { inState .done ticking with holdValid := true }
    supported s.cfg = true ∧ s.pins.rst = false ∧ s.fsm = .done ∧ s.holdValid = true
      ∧ aborts s.pins = false := by decide

theorem witness_ResetOverridesEveryInstruction :
    let s := dotRunning 5 { writing 1#2 3#16 with rst := true }
    supported s.cfg = true ∧ s.pins.rst = true := by decide

theorem witness_ConfigurationOutsideTheSpecIsRefused :
    supported { specConfig with nChars := 64 } = false := by decide

theorem witness_SymbolInUnpackLoadsGapOrEvent :
    (Instr.dash, Symbol.dash, true, 3) ∈ symbolTable
    ∧ (let s := { inState .unpack ticking with havePrev := true, slot := 7#4 }
       supported s.cfg = true ∧ s.pins.rst = false ∧ s.fsm = .unpack ∧ s.slot ≠ 8#4
         ∧ (s.havePrev = true ∧ ¬ (s.cfg.wbAbsorb = true ∧ (s.prevWb = true ∨ Symbol.dash = .wordBreak))))
    ∧ (let s := inState .unpack ticking
       s.pins.rst = false ∧ s.slot ≠ 8#4 ∧ s.havePrev = false) := by decide

theorem witness_SymbolAfterItsGapLoadsItsEvent :
    (Instr.wordBreak, Symbol.wordBreak, false, 7) ∈ symbolTable
    ∧ (let s := gapRunning 0 ticking
       supported s.cfg = true ∧ s.pins.rst = false ∧ s.fsm = .tGap ∧ s.cnt = 0#19) := by decide

theorem witness_SymbolExpiryShiftsTheRecord :
    (Instr.dot, Symbol.dot, true, 1) ∈ symbolTable
    ∧ (let s := dotRunning 0 ticking
       supported s.cfg = true ∧ s.pins.rst = false ∧ s.fsm = .tSym ∧ s.cnt = 0#19) := by decide

/-- In either timing state, at the smallest and the largest count. -/
theorem witness_RunningEventCountsTicks :
    (Instr.terminator, Symbol.terminator) ∈ codeTable
    ∧ (let s := dotRunning 1 ticking
       supported s.cfg = true ∧ s.pins.rst = false ∧ (s.fsm = .tGap ∨ s.fsm = .tSym) ∧ s.cnt ≠ 0#19)
    ∧ (let s := gapRunning 524287 .quiet
       s.pins.rst = false ∧ (s.fsm = .tGap ∨ s.fsm = .tSym) ∧ s.cnt ≠ 0#19) := by decide

/-- A TERMINATOR at a lower slot, and another code at slot 8. -/
theorem witness_TerminatorOrEighthSlotEndsTheCharacter :
    (Instr.terminator, Symbol.terminator) ∈ codeTable ∧ (Instr.dot, Symbol.dot) ∈ codeTable
    ∧ (let s := { inState .unpack ticking with slot := 7#4 }
       supported s.cfg = true ∧ s.pins.rst = false ∧ s.fsm = .unpack)
    ∧ (let s := { inState .unpack ticking with slot := 8#4 }
       s.pins.rst = false ∧ s.fsm = .unpack ∧ s.slot = 8#4) := by decide

theorem witness_TerminatorOutsideUnpack :
    (let s := gapRunning 0 ticking
     supported s.cfg = true ∧ s.pins.rst = false ∧ s.cnt = 0#19 ∧ s.fsm = .tGap)
    ∧ (let s := dotRunning 0 ticking
       s.pins.rst = false ∧ s.cnt = 0#19 ∧ s.fsm = .tSym) := by decide

theorem witness_CharacterInIdleIsTaken :
    (Instr.charZ true, 0x7A#8, 0x5A#8, 35, 0xA500#16) ∈ characterTable
    ∧ (let s := inState .idle ticking
       supported s.cfg = true ∧ s.pins.rst = false ∧ s.fsm = .idle ∧ s.skip = false)
    ∧ (let s := { inState .idle ticking with skip := true }
       s.pins.rst = false ∧ s.fsm = .idle ∧ s.skip = true) := by decide

/-- The index before the last ordinal, and the last ordinal. -/
theorem witness_CharacterInScanFindsItsRecord :
    (Instr.charSpace, 0x20#8, 0x20#8, 39, 0xC000#16) ∈ characterTable
    ∧ (let s := { inState .scan ticking with idx := 38#6 }
       s.cfg = specConfig ∧ s.pins.rst = false ∧ s.fsm = .scan ∧ s.idx.toNat < 39)
    ∧ (let s := { inState .scan ticking with idx := 39#6 }
       s.cfg = specConfig ∧ s.pins.rst = false ∧ s.fsm = .scan ∧ s.idx.toNat = 39) := by decide

theorem witness_SentinelValueIsUnknown :
    (let s := { inState .scan ticking with idx := 39#6 }
     s.cfg = specConfig ∧ s.pins.rst = false ∧ s.fsm = .scan ∧ s.idx.toNat < 40)
    ∧ (let s := { inState .scan ticking with idx := 40#6 }
       s.cfg = specConfig ∧ s.pins.rst = false ∧ s.fsm = .scan ∧ s.idx.toNat = 40 ∧ s.lenient = false)
    ∧ (let s := { inState .scan ticking with idx := 40#6, lenient := true }
       s.pins.rst = false ∧ s.fsm = .scan ∧ s.idx.toNat = 40 ∧ s.lenient = true) := by decide

theorem witness_CharacterWaitsWhileTheCoreIsBusy :
    (let s := dotRunning 5 ticking
     Inv s ∧ keepsMessage s.pins = true ∧ s.fsm ≠ .idle ∧ s.fsm ≠ .scan) :=
  ⟨inv_of_check (by decide), by decide⟩

/-- Ready and not ready. -/
theorem witness_PutcTransfersWhenReady :
    (let s := dotRunning 5 ticking
     Inv s ∧ s.pins.rst = false ∧ s.holdValid = false ∧ s.fatal = false)
    ∧ (let s := { dotRunning 5 ticking with holdValid := true }
       Inv s ∧ s.pins.rst = false ∧ s.holdValid = true) :=
  ⟨⟨inv_of_check (by decide), by decide⟩, inv_of_check (by decide), by decide⟩

theorem witness_WriteUnitSetsUnitOnly :
    let s := { inState .unpack ticking with sr := 0x4000#16 }
    Inv s ∧ s.pins.rst = false :=
  ⟨inv_of_check (by decide), by decide⟩

theorem witness_WriteCtrlSetsModeAndAborts :
    (let s := dotRunning 5 ticking
     Inv s ∧ s.pins.rst = false) ∧ (0x0002#16).getLsbD 1 = true ∧ (0xFFFD#16).getLsbD 1 = false :=
  ⟨⟨inv_of_check (by decide), by decide⟩, by decide⟩

/-- With and without a search that fails in the cycle. -/
theorem witness_WriteStatusClearsUnk :
    (let s := { inState .scan ticking with idx := 40#6 }
     Inv s ∧ s.pins.rst = false ∧ s.cfg.charRom.read s.idx.toNat = some s.cfg.sentinel)
    ∧ (let s := { inState .scan ticking with idx := 39#6, unk := true }
       Inv s ∧ s.pins.rst = false ∧ ¬ s.cfg.charRom.read s.idx.toNat = some s.cfg.sentinel) :=
  ⟨⟨inv_of_check (by decide), by decide⟩, inv_of_check (by decide), by decide⟩

theorem witness_WriteLookupHasNoEffect : Inv (gapRunning 3 ticking) := inv_of_check (by decide)

theorem witness_ReservedWriteBitsAreIgnored :
    (0x0002#16).getLsbD 0 = (0xFFFE#16).getLsbD 0 ∧ (0x0002#16).getLsbD 1 = (0xFFFE#16).getLsbD 1 := by decide

theorem witness_ReadUnitAndCtrlShowTheRegisters :
    (let s := { dotRunning 5 ticking with lenient := true }
     Inv s ∧ s.pins.regWe = false) ∧ Inv (inState .idle (writing 0#2 9#16)) :=
  ⟨⟨inv_of_check (by decide), by decide⟩, inv_of_check (by decide)⟩

/-- Without and with a register write in the cycle. -/
theorem witness_ReadStatusShowsTheFlags :
    (let s := { inState .idle ticking with unk := true, skip := true, errMsg := true, holdValid := true }
     Inv s ∧ s.pins.regWe = false)
    ∧ (let s := { inState .idle (writing 2#2 2#16) with unk := true }
       Inv s ∧ s.pins.regWe = true) :=
  ⟨⟨inv_of_check (by decide), by decide⟩, inv_of_check (by decide), by decide⟩

/-- R208: in the cycle of a write to STATUS the old value is read. -/
theorem test_read_status_in_write_cycle :
    after (exec .rdStatus { inState .idle (writing 2#2 2#16) with unk := true })
      (fun t => t.out.regRdata == 0x0002#16 && !t.unk) := by decide

/-- Without and with a register write in the cycle. -/
theorem witness_ReadLookupShowsTheLastSearch :
    (let s := { inState .idle ticking with lkChar := 0xFF#8, lkFound := true, lkIdx := 63#6 }
     Inv s ∧ s.pins.regWe = false)
    ∧ (let s := inState .idle (writing 3#2 2#16)
       Inv s ∧ s.pins.regWe = true) :=
  ⟨⟨inv_of_check (by decide), by decide⟩, inv_of_check (by decide), by decide⟩

theorem witness_StepKeepsTheInvariants :
    Inv (dotRunning 0 ticking) ∧ ∃ t, step (dotRunning 0 ticking) = .next t ∧ t.fsm = .unpack := by
  refine ⟨inv_of_check (by decide), ?_⟩
  obtain ⟨t, h, ht⟩ := exists_of_after (r := step (dotRunning 0 ticking))
    (p := fun t => decide (t.fsm = .unpack)) (by decide)
  exact ⟨t, h, of_decide_eq_true ht⟩

theorem witness_StepIsTotalUnderTheInvariants :
    Inv { inState .scan ticking with idx := 40#6 } := inv_of_check (by decide)

theorem witness_NoInstructionWritesTheTables :
    ∃ t, exec (.wrLookup 1#16) (inState .idle ticking) = .next t ∧ (inState .idle ticking).pins.rst = false := by
  obtain ⟨t, h, -⟩ := exists_of_after (r := exec (.wrLookup 1#16) (inState .idle ticking))
    (p := fun _ => true) (by decide)
  exact ⟨t, h, by decide⟩

theorem witness_FatalCoreNeverWorks :
    let s := { State.reset with cfg := misaligned, fatal := true,
                                host := [{ ticking with inValid := true }, writing 1#2 2#16] }
    Inv s ∧ s.fatal = true ∧ ∀ k, k < 2 → (s.pinsAt k).rst = false :=
  ⟨inv_of_check (by decide), by decide⟩

/-- A cycle for each clause: a clear by a write and one by reset, and a failed search. -/
theorem witness_UnkChangesOnlyBySearchWriteOrReset :
    (let s := { inState .idle (writing 2#2 2#16) with unk := true }
     after (step s) (fun t => !t.unk) = true ∧ s.pins.rst = false ∧ s.pins.regWe = true
       ∧ s.pins.regAddr = 2#2 ∧ s.pins.regWdata.getLsbD 1 = true ∧ s.fsm ≠ .scan)
    ∧ (let s := { inState .idle { Inputs.quiet with rst := true } with unk := true }
       after (step s) (fun t => !t.unk) = true ∧ s.pins.rst = true)
    ∧ (let s := { inState .scan ticking with idx := 40#6 }
       after (step s) (fun t => t.unk) = true ∧ s.unk = false ∧ s.pins.rst = false ∧ s.fsm = .scan
         ∧ s.cfg.charRom.read s.idx.toNat = some s.cfg.sentinel) := by decide

/-- A register write, a mode write, and the two ends of a search. -/
theorem witness_RegistersHaveOneWriter :
    (let s := inState .idle (writing 0#2 7#16)
     after (step s) (fun t => decide (t.unit = 7#16)) = true ∧ s.pins.rst = false)
    ∧ (let s := inState .idle (writing 1#2 1#16)
       after (step s) (fun t => t.lenient) = true ∧ s.pins.rst = false)
    ∧ (let s := { inState .scan ticking with idx := 40#6, curChar := 0x23#8 }
       after (step s) (fun t => decide ((t.lkChar, t.lkFound, t.lkIdx) ≠ (s.lkChar, s.lkFound, s.lkIdx))) = true
         ∧ s.pins.rst = false) := by decide

theorem witness_StrobeMarksEveryLoad :
    (let s := { inState .unpack ticking with sr := 0x4000#16 }
     Inv s ∧ keepsMessage s.pins = true ∧ after (step s) (fun t => t.evStb) = true)
    ∧ (let s := dotRunning 5 ticking
       Inv s ∧ keepsMessage s.pins = true ∧ after (step s) (fun t => !t.evStb) = true) :=
  ⟨⟨inv_of_check (by decide), by decide⟩, inv_of_check (by decide), by decide⟩

theorem witness_KeyRisesOnlyWithAnOnEvent :
    let s := { inState .unpack ticking with sr := 0x4000#16 }
    Inv s ∧ keyOut s = false ∧ after (step s) (fun t => keyOut t) = true :=
  ⟨inv_of_check (by decide), by decide⟩

/-- The shortest search that finds, and the shortest that fails. -/
theorem witness_SearchTakesItsCycles :
    (let s := { inState .scan ticking with curChar := 0x30#8 }
     Inv s ∧ s.fsm = .scan ∧ s.idx = 0#6 ∧ normalize s.curChar = s.curChar
       ∧ indexOf s.cfg s.curChar = .ok 0 ∧ ∀ k, k < 1 → keepsMessage (s.pinsAt k) = true)
    ∧ (let s := { inState .scan ticking with cfg := tiny, curChar := 0x23#8, host := [ticking, ticking] }
       Inv s ∧ s.fsm = .scan ∧ s.idx = 0#6 ∧ normalize s.curChar = s.curChar
         ∧ known s.cfg s.curChar = false ∧ ∀ k, k < 2 → keepsMessage (s.pinsAt k) = true) :=
  ⟨⟨inv_of_check (by decide), by decide⟩, inv_of_check (by decide), by decide⟩

/-- One tick less than the count, in either timing state. -/
theorem witness_EventWaitsForItsTicks :
    (let s := { dotRunning 2 ticking with host := [ticking, .quiet] }
     supported s.cfg = true ∧ (s.fsm = .tGap ∨ s.fsm = .tSym)
       ∧ (∀ k, k < 2 → keepsMessage (s.pinsAt k) = true) ∧ ticksIn s 2 < s.cnt.toNat)
    ∧ (let s := gapRunning 2 ticking
       supported s.cfg = true ∧ (s.fsm = .tGap ∨ s.fsm = .tSym)
         ∧ (∀ k, k < 1 → keepsMessage (s.pinsAt k) = true) ∧ ticksIn s 1 < s.cnt.toNat) := by decide

/-- The record of `E` with unit 0, as the second character of a message: UNPACK, T_GAP, T_SYM, UNPACK. -/
def recordOfE : State :=
  { inState .unpack ticking with sr := 0x4000#16, firstSym := true, havePrev := true, unit := 0#16,
                                 curLast := true, host := List.replicate 4 ticking }

theorem witness_RecordEmitsItsUnpackedEvents :
    Inv recordOfE ∧ recordOfE.fsm = .unpack ∧ recordOfE.slot = 0#4 ∧ recordOfE.firstSym = true
    ∧ (∀ k, k < 4 → keepsMessage (recordOfE.pinsAt k) = true)
    ∧ (∀ k u, k < 4 → runSteps k recordOfE = some u → u.fsm = .unpack ∨ u.fsm = .tGap ∨ u.fsm = .tSym)
    ∧ ∃ t tr, runTraces 4 recordOfE = some (t, tr) ∧ t.fsm = .done
        ∧ tr.events = [⟨false, 3#3⟩, ⟨true, 1#3⟩] := by
  refine ⟨inv_of_check (by decide), by decide, by decide, by decide, by decide, ?_, ?_⟩
  · intro k u hk h
    have key : ∀ k, k < 4 → (runSteps k recordOfE).all
        (fun u => decide (u.fsm = .unpack ∨ u.fsm = .tGap ∨ u.fsm = .tSym)) = true := by decide
    have := key k hk
    rw [h] at this
    simpa using this
  · have h : (runTraces 4 recordOfE).any (fun r =>
        decide (r.1.fsm = .done ∧ r.2.events = [⟨false, 3#3⟩, ⟨true, 1#3⟩])) = true := by decide
    obtain ⟨⟨t, tr⟩, hr, ht⟩ := (Option.any_eq_true _ _).1 h
    exact ⟨t, tr, hr, of_decide_eq_true ht⟩

/-- A message of one character, from its transfer to its DONE, with unit 0. -/
def messageOfE : State :=
  { inState .idle ticking with cfg := tiny, unit := 0#16,
                               host := { ticking with inValid := true, inChar := 0x65#8, inLast := true }
                                         :: List.replicate 6 ticking }

theorem witness_CoreRefinesTheFunctionalLayer :
    Inv messageOfE ∧ messageOfE.fatal = false ∧ messageOfE.quiescent = true ∧ messageOfE.noMessage = true
    ∧ (∀ k, k < 7 → (messageOfE.pinsAt k).rst = false ∧ writesReg (messageOfE.pinsAt k) 1#2 = false)
    ∧ (runTraces 7 messageOfE).any (fun r => r.1.quiescent
        && decide (r.2.marks = [.event ⟨true, 1#3⟩, .done false] ∧ r.2.inputs = [(0x65#8, true)])) = true :=
  ⟨inv_of_check (by decide), by decide⟩

/-- An unknown character, handed over last in its message, with `lenient` written to 1 meanwhile. -/
def unknownMessage : State :=
  { inState .idle ticking with cfg := tiny,
                               host := { ticking with inValid := true, inChar := 0x23#8, inLast := true }
                                         :: { writing 1#2 1#16 with tick := true }
                                         :: List.replicate 4 ticking }

/-- The failed lookup meets the mode of its own cycle. -/
theorem witness_CoreFollowsTheModeOfEachFailedLookup :
    Inv unknownMessage ∧ unknownMessage.fatal = false ∧ unknownMessage.quiescent = true
    ∧ unknownMessage.noMessage = true ∧ (∀ k, k < 5 → keepsMessage (unknownMessage.pinsAt k) = true)
    ∧ (runTraces 5 unknownMessage).any (fun r => r.1.quiescent
        && decide (r.2.marks = [.done false] ∧ r.2.failures = [(0x23#8, .lenient)])) = true :=
  ⟨inv_of_check (by decide), by decide⟩

/-- R262 (a), (b), R163: the first `#` meets lenient mode and is skipped, the second strict mode. The
prefix of the message is `E#`, and the message after it is looked up with what remains. -/
theorem test_resolveMessages :
    resolveMessages tiny (messagesFrom []
        [(0x45#8, false), (0x23#8, false), (0x23#8, false), (0x45#8, true), (0x45#8, true)])
        [(0x23#8, .lenient), (0x23#8, .strict)]
      = [([0x45#8, 0x23#8, 0x23#8, 0x45#8], [0x45#8, 0x23#8], true), ([0x45#8], [0x45#8], true)] := by decide

/-- R262 (f): the events of a message, its `done` pulse, the events of the next message. -/
theorem test_expectedMarks :
    expectedMarks tiny .strict [(0x45#8, true), (0x45#8, false), (0x23#8, true)]
      = [.event ⟨true, 1#3⟩, .done false, .event ⟨true, 1#3⟩, .done true] := by decide

theorem witness_TickTraceIsUnitsTimesUnit :
    Inv { recordOfE with unit := 5#16 } ∧ recordOfE.evStb = false
    ∧ (runTraces 2 { recordOfE with unit := 5#16 }).any (fun r =>
        decide (r.2.ticks = [15#19] ∧ r.2.loadUnits = [5#16])) = true :=
  ⟨inv_of_check (by decide), by decide⟩

end Sys2Proof.Tests
end

section
/-! PROOFS. `00_scope.md`: a step is the clock cycle of whichever presented word is picked, and no
instruction runs under a configuration outside the spec. Both follow from the law that an instruction's
meaning is the cycle with its code word at its place. -/

namespace Sys2Proof.Machine

/-! ### The instruction step picks -/

/-- The instruction picked from a list of words is the decoding of one of them. -/
theorem exists_decode_of_firstInstr {ws : List CodeWord} {i : Instr} (h : firstInstr ws = some i) :
    ∃ w ∈ ws, decode w = .ok i := by
  induction ws with
  | nil => cases h
  | cons w ws ih =>
    cases hw : decode w with
    | ok j =>
      have hj : j = i := by simpa [firstInstr, hw] using h
      exact ⟨w, List.mem_cons_self, hj ▸ hw⟩
    | error e =>
      obtain ⟨v, hv, hd⟩ := ih (by simpa [firstInstr, hw] using h)
      exact ⟨v, List.mem_cons_of_mem w hv, hd⟩

/-- The register read stands at its place in every cycle (`30_encoding.md` R87). -/
theorem regr2_mem_presented (s : State) : CodeWord.regr2 s.pins.regAddr ∈ presented s := by
  simp [presented]

/-- What fetch picks is the decoding of a presented word. -/
theorem exists_decode_fetch (s : State) : ∃ w ∈ presented s, decode w = .ok (fetch s) := by
  unfold fetch
  split
  next i h => exact exists_decode_of_firstInstr h
  next => exact ⟨_, regr2_mem_presented s, rfl⟩

/-! ### Every presented word means the whole cycle -/

/-- The instruction of a presented word has the cycle itself as its meaning. -/
theorem exec_eq_cycle_of_presented {s : State} {w : CodeWord} {i : Instr} (hw : w ∈ presented s)
    (hd : decode w = .ok i) : exec i s = cycle s :=
  (exec_eq_cycleOfWord s hd).trans (cycleOfWord_of_mem_presented hw)

/-- A step is one clock cycle with the inputs the host drives (`45_cycle_fsm.md` R231). -/
theorem step_eq_cycle (s : State) : step s = cycle s := by
  obtain ⟨w, hw, hd⟩ := exists_decode_fetch s
  exact exec_eq_cycle_of_presented hw hd

/-! ### Every instruction's meaning is a clock edge -/

/-- The cycle of a register write's word has that write on the register port. -/
theorem cycleOfWord_regWriteWord (a : RegAddr) (v : Word16) (s : State) :
    cycleOfWord (regWriteWord a v) s = clock s (writePins a v s.pins) := by
  rw [regWriteWord, cycleOfWord, extract_append_high, extract_append_low]

/-- The cycle of a PUTC word has that character on the input port. -/
theorem cycleOfWord_putcWord (last : Bool) (c : Byte) (s : State) :
    cycleOfWord (.charin9 (bit last ++ c)) s = clock s (putcPins last c s.pins) := by
  rw [cycleOfWord, getLsbD_bit_append, extract_append_low]

/-- An instruction's meaning is the cycle with its encoded word at its place. The symbols, characters
and register reads have that form as they stand. -/
theorem exec_eq_cycleOfWord_encode (i : Instr) (s : State) : exec i s = cycleOfWord (encode i) s := by
  cases i with
  | putc last c => exact (cycleOfWord_putcWord last c s).symm
  | wrUnit v => exact (cycleOfWord_regWriteWord 0#2 v s).symm
  | wrCtrl v => exact (cycleOfWord_regWriteWord 1#2 v s).symm
  | wrStatus v => exact (cycleOfWord_regWriteWord 2#2 v s).symm
  | wrLookup v => exact (cycleOfWord_regWriteWord 3#2 v s).symm
  | _ => rfl

/-- Putting a character at its place leaves the configuration alone. -/
@[simp] theorem placeChar_cfg (c : Byte) (s : State) : (s.placeChar c).cfg = s.cfg := by
  unfold State.placeChar
  split <;> rfl

/-- The cycle of a word is a clock edge under the same configuration. -/
theorem exists_clock_of_cycleOfWord (w : CodeWord) (s : State) :
    ∃ t p, t.cfg = s.cfg ∧ cycleOfWord w s = clock t p := by
  cases w with
  | sym2 c => exact ⟨_, _, placeSymbol_cfg _ s, rfl⟩
  | char8 c => exact ⟨_, _, placeChar_cfg c s, rfl⟩
  | charin9 w => exact ⟨s, _, rfl, rfl⟩
  | regw18 w => exact ⟨s, _, rfl, rfl⟩
  | regr2 a => exact ⟨s, _, rfl, rfl⟩

/-- Every instruction's meaning is a clock edge under the same configuration. -/
theorem exists_clock_of_exec (i : Instr) (s : State) :
    ∃ t p, t.cfg = s.cfg ∧ exec i s = clock t p := by
  rw [exec_eq_cycleOfWord_encode]
  exact exists_clock_of_cycleOfWord (encode i) s

/-- A clock edge under a configuration outside the spec is refused (`00_scope.md` R7). -/
theorem clock_refused_of_unsupported {s : State} (h : supported s.cfg = false) (p : Inputs) :
    clock s p = .refused .configOutsideSpec := by
  simp [clock, h]

/-! ### The obligations -/

/-- Settles O5: both sides are the clock cycle, since the picked word and the given one are both
presented. -/
theorem stepRunsThePresentedInstruction : Obligations.StepRunsThePresentedInstruction := by
  intro s
  constructor
  · intro w i hw hd
    calc step s = cycle s := step_eq_cycle s
      _ = exec i s := (exec_eq_cycle_of_presented hw hd).symm
  · exact ⟨regr2_mem_presented s, decodeRegRead s.pins.regAddr, rfl⟩

/-- Settles O26: every instruction's meaning is a clock edge under the same configuration, and the
clock refuses a configuration outside the spec. -/
theorem configurationOutsideTheSpecIsRefused : Obligations.ConfigurationOutsideTheSpecIsRefused := by
  intro i s hs
  obtain ⟨t, p, hcfg, hexec⟩ := exists_clock_of_exec i s
  have ht : supported t.cfg = false := hcfg ▸ hs
  exact hexec.trans (clock_refused_of_unsupported ht p)

end Sys2Proof.Machine
end

section
/-! PROOFS. `10_state.md`: what a step can do, said once (`step_cases`, `ActionCase`), and the
invariants of R47 at reset and over every step. -/

namespace Sys2Proof.Machine

/-! ### What the state action of a cycle can do -/

/-- The outcomes of the state action (`45_cycle_fsm.md` R233 to R238) on the state `t` being built, each
with the guard under which the state `s` before the edge gives it. -/
inductive ActionCase (tick : Bool) (s t : State) : State → Prop
  /-- `IDLE` with an empty holding register -/
  | wait (hf : s.fsm = .idle) (hv : s.holdValid = false) : ActionCase tick s t t
  /-- `IDLE` drops the held character of a failed message -/
  | drop (hf : s.fsm = .idle) (hv : s.holdValid = true) (hs : s.skip = true) :
      ActionCase tick s t { t with holdValid := false, fsm := if s.holdLast then .done else .idle }
  /-- `IDLE` takes the held character -/
  | take (hf : s.fsm = .idle) (hv : s.holdValid = true) (hs : s.skip = false) :
      ActionCase tick s t { t with holdValid := false, curChar := normalize s.holdChar,
                                   curLast := s.holdLast, idx := 0#6, fsm := .scan }
  /-- `SCAN` reaches the sentinel -/
  | unknown (hf : s.fsm = .scan) (hr : s.cfg.charRom.read s.idx.toNat = some s.cfg.sentinel) :
      ActionCase tick s t (takeUnknownCharacter s t)
  /-- `SCAN` finds the character -/
  | found (w : Word16) (hf : s.fsm = .scan)
      (hr : s.cfg.charRom.read s.idx.toNat ≠ some s.cfg.sentinel)
      (hc : s.cfg.charRom.read s.idx.toNat = some s.curChar)
      (hw : recWord s.cfg s.idx.toNat = some w) :
      ActionCase tick s t (loadRecord w (setLookup s true t))
  /-- `SCAN` goes on to the next entry -/
  | miss (hf : s.fsm = .scan) (hr : s.cfg.charRom.read s.idx.toNat ≠ some s.cfg.sentinel)
      (hc : s.cfg.charRom.read s.idx.toNat ≠ some s.curChar) :
      ActionCase tick s t { t with idx := s.idx + 1#6 }
  /-- `UNPACK` ends the character -/
  | endChar (hf : s.fsm = .unpack) (hd : recordFinished s = true) :
      ActionCase tick s t (endCharacter s t)
  /-- `UNPACK` loads a gap event -/
  | loadGap (hf : s.fsm = .unpack) (hd : recordFinished s = false)
      (hg : needGap s.cfg.wbAbsorb s.havePrev s.prevWb (headSymbol s.sr) = true) :
      ActionCase tick s t { loadEvent s (gapEvent s.firstSym) t with fsm := .tGap }
  /-- `UNPACK` or the expiry of a gap loads the symbol's event -/
  | loadSym (e : Event)
      (hf : (s.fsm = .unpack ∧ recordFinished s = false
          ∧ needGap s.cfg.wbAbsorb s.havePrev s.prevWb (headSymbol s.sr) = false)
        ∨ (s.fsm = .tGap ∧ s.cnt = 0#19))
      (he : symEvent (headSymbol s.sr) = some e) :
      ActionCase tick s t { loadEvent s e t with fsm := .tSym }
  /-- an event goes on counting -/
  | count (hf : s.fsm = .tGap ∨ s.fsm = .tSym) (hc : s.cnt ≠ 0#19) :
      ActionCase tick s t (countTick tick s t)
  /-- a symbol's event expires -/
  | expire (hf : s.fsm = .tSym) (hc : s.cnt = 0#19) : ActionCase tick s t (finishSymbol s t)
  /-- `DONE` closes the message -/
  | close (hf : s.fsm = .done) : ActionCase tick s t (endMessage t)

/-- A gap event needs an earlier symbol of the message (`43_timing.md` R172). -/
theorem havePrev_of_needGap {a b c : Bool} {f : Symbol} (h : needGap a b c f = true) : b = true := by
  unfold needGap at h
  exact (Bool.and_eq_true_iff.1 h).1

/-- Every next state of a state action is one of the listed outcomes. -/
theorem fsmAction_cases {tick : Bool} {s t u : State} (h : fsmAction tick s t = .next u) :
    ActionCase tick s t u := by
  cases hf : s.fsm with
  | idle =>
    obtain rfl : idleAction s t = u := by simpa [fsmAction, hf] using h
    unfold idleAction
    cases hv : s.holdValid
    · exact .wait hf hv
    · cases hs : s.skip
      · exact .take hf hv hs
      · exact .drop hf hv hs
  | scan =>
    have h : scanAction s t = .next u := by simpa [fsmAction, hf] using h
    obtain ⟨c, hr, ⟨rfl, rfl⟩ | ⟨hs, rfl, w, hw, rfl⟩ | ⟨hs, hc, rfl⟩⟩ :=
      (scanAction_next_iff s t u).1 h
    · exact .unknown hf hr
    · exact .found w hf (by simpa [hr] using hs) hr hw
    · exact .miss hf (by simpa [hr] using hs) (by simpa [hr] using hc)
  | unpack =>
    have h : unpackAction s t = .next u := by simpa [fsmAction, hf] using h
    obtain ⟨hd, rfl⟩ | ⟨hd, hg, rfl⟩ | ⟨hd, hg, e, he, rfl⟩ := (unpackAction_next_iff s t u).1 h
    · exact .endChar hf hd
    · exact .loadGap hf hd hg
    · exact .loadSym e (.inl ⟨hf, hd, hg⟩) he
  | tGap =>
    have h : gapAction tick s t = .next u := by simpa [fsmAction, hf] using h
    obtain ⟨hc, e, he, rfl⟩ | ⟨hc, rfl⟩ := (gapAction_next_iff tick s t u).1 h
    · exact .loadSym e (.inr ⟨hf, hc⟩) he
    · exact .count (.inl hf) hc
  | tSym =>
    obtain rfl : symAction tick s t = u := by simpa [fsmAction, hf] using h
    unfold symAction
    split
    next hc => exact .expire hf hc
    next hc => exact .count (.inr hf) hc
  | done =>
    obtain rfl : endMessage t = u := by simpa [fsmAction, hf] using h
    exact .close hf

/-- A step without reset: a state action between the two ends of the cycle. -/
theorem step_cases {s t : State} (h : step s = .next t) (hr : s.pins.rst = false) :
    ∃ u, ActionCase s.pins.tick s (beforeAction s s.pins) u ∧ t = edge s s.pins u := by
  rw [step_eq_cycle] at h
  obtain ⟨-, ⟨hr', -⟩ | ⟨-, u, hu, rfl⟩⟩ := (clock_next_iff s s.pins t).1 h
  · simp [hr] at hr'
  · exact ⟨u, fsmAction_cases hu, rfl⟩

/-- A step with reset (`70_reset_and_hazards.md` R300). -/
theorem step_of_reset {s t : State} (h : step s = .next t) (hr : s.pins.rst = true) :
    t = advance s s.pins (resetCore s) := by
  rw [step_eq_cycle] at h
  obtain ⟨-, ⟨-, rfl⟩ | ⟨hr', -⟩⟩ := (clock_next_iff s s.pins t).1 h
  · rfl
  · simp [hr] at hr'

/-! ### The ends of a cycle keep the invariants -/

/-- The model's own fields are not in the invariants. -/
theorem Inv.advance {s t : State} (p : Inputs) (h : Inv t) : Inv (advance s p t) := { h with }

/-- No register write touches a field of the invariants. -/
theorem Inv.regWrite {s t : State} (p : Inputs) (h : Inv t) : Inv (regWrite s p t) := by
  unfold Machine.regWrite
  repeat' split
  all_goals exact { h with }

/-- The state that ABORT leaves (`44_host_ops.md` R211) meets the invariants. -/
theorem Inv.abort {t : State} (h : Inv t) : Inv (abort t) :=
  { h with
    cntBound := Nat.zero_le _
    gapIsOff := nofun
    symHead := nofun
    symOn := nofun
    gapHead := nofun
    skipFailed := nofun
    fatalIdle := fun _ => ⟨rfl, rfl⟩
    strobeTimed := nofun }

/-- Steps 4 and 5 of `45_cycle_fsm.md` R231 keep the invariants. -/
theorem Inv.afterAction {s t : State} (p : Inputs) (h : Inv t) : Inv (afterAction s p t) := by
  unfold Machine.afterAction abortStep
  split
  · exact (h.regWrite p).abort
  · exact h.regWrite p

/-- Steps 1 and 2 of R231 keep the invariants: a fatal core is not ready for a character. -/
theorem Inv.beforeAction {s : State} (p : Inputs) (h : Inv s) : Inv (beforeAction s p) := by
  have hq : Inv { s with evStb := false } := { h with strobeTimed := nofun }
  unfold Machine.beforeAction transfer
  split
  next ht =>
    have hfatal : s.fatal = false := by
      simp only [transfers, inReady, Bool.and_eq_true, Bool.not_eq_true'] at ht
      exact ht.2.2
    exact { hq with fatalIdle := fun hc => absurd (hfatal.symm.trans hc) Bool.false_ne_true }
  next => exact hq

/-- The reset action establishes the invariants under every configuration inside the spec. -/
theorem inv_resetCore {s : State} (h : supported s.cfg = true) : Inv (resetCore s) where
  cfgSupported := h
  fatalIsMisaligned := rfl
  slotBound := Nat.zero_le _
  idxBound := Nat.zero_le _
  unitsLegal := .inl rfl
  ticksBound := Nat.zero_le _
  cntBound := Nat.zero_le _
  gapIsOff := nofun
  symHead := nofun
  symOn := nofun
  gapHead := nofun
  skipFailed := nofun
  fatalIdle := fun _ => ⟨rfl, rfl⟩
  strobeTimed := nofun

/-! ### The state actions keep the invariants -/

/-- A working core is not fatal (`10_state.md` R47 (i)). -/
theorem Inv.fatal_false {s : State} (h : Inv s) (hw : s.fsm ≠ .idle ∨ s.holdValid = true) :
    s.fatal = false := by
  by_contra hc
  obtain ⟨hi, hv⟩ := h.fatalIdle (by simpa using hc)
  simp [hi, hv] at hw

/-- A core that is not fatal has aligned tables (R37). -/
theorem Inv.aligned {s : State} (h : Inv s) (hf : s.fatal = false) : tableAligned s.cfg = true := by
  simpa [hf] using h.fatalIsMisaligned

/-- A core that is not fatal and has no strobe may go to any control state that times no event. -/
theorem Inv.moveUntimed {t : State} {f : Fsm} (h : Inv t) (hfatal : t.fatal = false)
    (hstb : t.evStb = false) (hg : f ≠ .tGap) (hs : f ≠ .tSym) : Inv { t with fsm := f } :=
  { h with
    gapIsOff := fun hc => absurd hc hg
    symHead := fun hc => absurd hc hs
    symOn := fun hc => absurd hc hs
    gapHead := fun hc => absurd hc hg
    fatalIdle := fun hc => absurd (hfatal.symm.trans hc) Bool.false_ne_true
    strobeTimed := fun hc => absurd (hstb.symm.trans hc) Bool.false_ne_true }

/-- `DONE` and `IDLE`, one of which follows a character, time no event. -/
theorem afterCharacter_untimed (b : Bool) :
    (if b then Fsm.done else .idle) ≠ .tGap ∧ (if b then Fsm.done else .idle) ≠ .tSym := by
  cases b <;> decide

/-- The end of a character keeps the invariants. -/
theorem Inv.afterCharacter {t : State} (h : Inv t) (hfatal : t.fatal = false)
    (hstb : t.evStb = false) (b : Bool) : Inv { t with fsm := if b then .done else .idle } :=
  h.moveUntimed hfatal hstb (afterCharacter_untimed b).1 (afterCharacter_untimed b).2

/-- The exception UnknownCharacter keeps the invariants: a failed message is skipped and marked. -/
theorem Inv.takeUnknownCharacter {s t : State} (h : Inv t) (hfatal : t.fatal = false)
    (hstb : t.evStb = false) : Inv (takeUnknownCharacter s t) := by
  unfold Machine.takeUnknownCharacter
  cases s.lenient
  · exact { h.afterCharacter hfatal hstb s.curLast with skipFailed := fun _ => rfl }
  · exact { h.afterCharacter hfatal hstb s.curLast with }

/-- The units and the signal of a symbol's event (`43_timing.md` R170). -/
theorem symEvent_spec {f : Symbol} {e : Event} (h : symEvent f = some e) :
    f ≠ .terminator ∧ (e.units = 1#3 ∨ e.units = 3#3 ∨ e.units = 7#3)
      ∧ (e.on = true ↔ f = .dot ∨ f = .dash) := by
  cases f <;> cases h <;> decide

/-- A gap has 1 or 3 units (`30_encoding.md` R90 (e)). -/
theorem gapEvent_units (b : Bool) :
    (gapEvent b).units = 1#3 ∨ (gapEvent b).units = 3#3 ∨ (gapEvent b).units = 7#3 := by
  cases b <;> decide

/-- A loaded duration is at most seven of the longest unit (`10_state.md` R47 (d)). -/
theorem ratioTicks_bound {u : Units} (h : u = 1#3 ∨ u = 3#3 ∨ u = 7#3) (unit : Word16) :
    (ratioTicks u unit).toNat ≤ 7 * (2 ^ UNIT_W - 1) := by
  have hu : u.toNat ≤ 7 := Nat.le_of_lt_succ u.isLt
  have hunit : unit.toNat ≤ 2 ^ UNIT_W - 1 := Nat.le_pred_of_lt unit.isLt
  rw [ratioTicks_toNat u unit h]
  exact Nat.mul_le_mul hu hunit

/-- The load of a symbol's event keeps the invariants. -/
theorem Inv.loadSymbolEvent {s t : State} {e : Event} (h : Inv t) (hfatal : t.fatal = false)
    (he : symEvent (headSymbol t.sr) = some e) (hslot : t.slot.toNat ≤ 7) :
    Inv { loadEvent s e t with fsm := .tSym } := by
  obtain ⟨hhead, hunits, hon⟩ := symEvent_spec he
  exact
    { h with
      unitsLegal := .inr hunits
      ticksBound := ratioTicks_bound hunits s.unit
      cntBound := Nat.le_refl _
      gapIsOff := nofun
      symHead := fun _ => ⟨hhead, hslot⟩
      symOn := fun _ => hon
      gapHead := nofun
      fatalIdle := fun hc => absurd (hfatal.symm.trans hc) Bool.false_ne_true
      strobeTimed := fun _ => .inr rfl }

/-- The load of a gap event before a symbol keeps the invariants. -/
theorem Inv.loadGapEvent {s t : State} (h : Inv t) (hfatal : t.fatal = false) (b : Bool)
    (hhead : headSymbol t.sr ≠ .terminator) (hslot : t.slot.toNat ≤ 7) (hp : t.havePrev = true) :
    Inv { loadEvent s (gapEvent b) t with fsm := .tGap } :=
  { h with
    unitsLegal := .inr (gapEvent_units b)
    ticksBound := ratioTicks_bound (gapEvent_units b) s.unit
    cntBound := Nat.le_refl _
    gapIsOff := fun _ => rfl
    symHead := nofun
    symOn := nofun
    gapHead := fun _ => ⟨hhead, hslot, hp⟩
    fatalIdle := fun hc => absurd (hfatal.symm.trans hc) Bool.false_ne_true
    strobeTimed := fun _ => .inl rfl }

/-- Counting keeps the invariants: a counter that is not 0 does not wrap. -/
theorem Inv.countTick {s t : State} (tick : Bool) (h : Inv t) (heq : t.cnt = s.cnt)
    (hc : s.cnt ≠ 0#19) : Inv (countTick tick s t) := by
  have hle : (s.cnt - 1#19).toNat ≤ s.cnt.toNat := by bv_omega
  unfold Machine.countTick
  split
  · exact { h with cntBound := hle.trans (heq ▸ h.cntBound) }
  · exact h

/-- The expiry of a symbol's event keeps the invariants: it was at one of the slots 0 to 7. -/
theorem Inv.finishSymbol {s t : State} (h : Inv t) (hfatal : t.fatal = false)
    (hstb : t.evStb = false) (hslot : s.slot.toNat ≤ 7) : Inv (finishSymbol s t) :=
  have hnext : (s.slot + 1#4).toNat ≤ 8 := by bv_omega
  { h.moveUntimed (f := .unpack) hfatal hstb nofun nofun with
    slotBound := hnext
    symHead := nofun
    symOn := nofun
    gapHead := nofun }

/-- The next entry of a search that is not at the sentinel is inside the table. -/
theorem Inv.idx_succ_le {s : State} (h : Inv s) (hfatal : s.fatal = false)
    (hr : s.cfg.charRom.read s.idx.toNat ≠ some s.cfg.sentinel) :
    (s.idx + 1#6).toNat ≤ s.cfg.nChars := by
  have hne : s.idx.toNat ≠ s.cfg.nChars := fun hc =>
    hr ((aligned_sentinel_iff (h.aligned hfatal) h.idxBound).2 hc)
  have hle := h.idxBound
  have hmod : (s.idx + 1#6).toNat ≤ s.idx.toNat + 1 := by
    rw [BitVec.toNat_add]
    exact Nat.mod_le _ _
  omega

/-- A record that is not finished is at one of the slots 0 to 7. -/
theorem Inv.slot_le_of_not_finished {s : State} (h : Inv s) (hd : recordFinished s = false) :
    s.slot.toNat ≤ 7 := by
  have hne := (head_ne_terminator_of_not_finished hd).2
  have hle := h.slotBound
  bv_omega

/-- Every state action keeps the invariants. -/
theorem Inv.action {s u : State} {p : Inputs} (h : Inv s)
    (hu : ActionCase p.tick s (Machine.beforeAction s p) u) : Inv u := by
  have ht : Inv (Machine.beforeAction s p) := h.beforeAction p
  have hfatal (hw : s.fsm ≠ .idle ∨ s.holdValid = true) :
      (Machine.beforeAction s p).fatal = false := by simpa using h.fatal_false hw
  have hstb : (Machine.beforeAction s p).evStb = false := beforeAction_evStb s p
  cases hu with
  | wait => exact ht
  | drop hf hv =>
    exact { ht.afterCharacter (hfatal (.inr hv)) hstb s.holdLast with
            fatalIdle := fun hc => absurd ((hfatal (.inr hv)).symm.trans hc) Bool.false_ne_true }
  | take hf hv =>
    exact { ht.moveUntimed (f := .scan) (hfatal (.inr hv)) hstb nofun nofun with
            idxBound := Nat.zero_le _
            fatalIdle := fun hc => absurd ((hfatal (.inr hv)).symm.trans hc) Bool.false_ne_true }
  | unknown hf => exact ht.takeUnknownCharacter (hfatal (.inl (by simp [hf]))) hstb
  | found w hf =>
    exact { ht.moveUntimed (f := .unpack) (hfatal (.inl (by simp [hf]))) hstb nofun nofun with
            slotBound := Nat.zero_le _
            symHead := nofun
            symOn := nofun
            gapHead := nofun }
  | miss hf hr =>
    have hidx := h.idx_succ_le (h.fatal_false (.inl (by simp [hf]))) hr
    exact { ht with idxBound := by simpa using hidx }
  | endChar hf => exact ht.afterCharacter (hfatal (.inl (by simp [hf]))) hstb s.curLast
  | loadGap hf hd hg =>
    exact ht.loadGapEvent (hfatal (.inl (by simp [hf]))) s.firstSym
      (by simpa using (head_ne_terminator_of_not_finished hd).1)
      (by simpa using h.slot_le_of_not_finished hd) (by simpa using havePrev_of_needGap hg)
  | loadSym e hf he =>
    have hslot : s.slot.toNat ≤ 7 := by
      obtain ⟨-, hd, -⟩ | ⟨hg, -⟩ := hf
      · exact h.slot_le_of_not_finished hd
      · exact (h.gapHead hg).2.1
    have hbusy : s.fsm ≠ .idle := by
      obtain ⟨hf, -⟩ | ⟨hf, -⟩ := hf <;> simp [hf]
    exact ht.loadSymbolEvent (hfatal (.inl hbusy)) (by simpa using he) (by simpa using hslot)
  | count hf hc => exact ht.countTick p.tick (by simp) hc
  | expire hf =>
    exact ht.finishSymbol (hfatal (.inl (by simp [hf]))) hstb (h.symHead hf).2
  | close hf =>
    exact { ht.moveUntimed (f := .idle) (hfatal (.inl (by simp [hf]))) hstb nofun nofun with
            gapHead := nofun
            skipFailed := nofun }

/-- Settles O47: the reset action establishes the invariants, and without reset each of the three parts
of the cycle keeps them. -/
theorem stepKeepsTheInvariants : Obligations.StepKeepsTheInvariants := by
  intro s t h hst
  cases hr : s.pins.rst
  · obtain ⟨u, hu, rfl⟩ := step_cases hst hr
    exact ((h.action hu).afterAction s.pins).advance s.pins
  · obtain rfl := step_of_reset hst hr
    exact (inv_resetCore h.cfgSupported).advance s.pins

/-- Settles O46: the reset state is what the reset action makes of itself. -/
theorem invariantsHoldAtReset : Obligations.InvariantsHoldAtReset :=
  inv_resetCore (s := State.reset) specConfig_supported

end Sys2Proof.Machine
end

section
/-! PROOFS. `10_state.md`: who writes the host's registers, `unk` and the event registers, the
character that waits in the holding register, and the values after reset. All but the last are read
off the outcomes of the state action (`ActionCase`). -/

namespace Sys2Proof.Machine

/-! ### Who writes the registers -/

/-- The end of a cycle writes `UNIT` by its own register write only (`44_host_ops.md` R209). -/
theorem afterAction_unit (s : State) (p : Inputs) (t : State) : (afterAction s p t).unit =
    if p.regWe = true ∧ p.regAddr = 0#2 then p.regWdata else t.unit := by
  by_cases hw : p.regWe = true ∧ p.regAddr = 0#2
  · simp [afterAction, regWrite, writesReg, hw]
  · simp [afterAction, regWrite, writesReg, hw, apply_ite State.unit]

/-- The end of a cycle writes `CTRL.LENIENT` by its own register write only (R210). -/
theorem afterAction_lenient (s : State) (p : Inputs) (t : State) : (afterAction s p t).lenient =
    if p.regWe = true ∧ p.regAddr = 1#2 then p.regWdata.getLsbD 0 else t.lenient := by
  by_cases hw : p.regWe = true ∧ p.regAddr = 1#2
  · simp [afterAction, regWrite, writesReg, hw]
  · simp [afterAction, regWrite, writesReg, hw, apply_ite State.lenient]

/-- The end of a cycle clears `unk` by a write of 1 to `STATUS[1]` only, and a search that sets it in
the same cycle wins (R212). -/
theorem afterAction_unk (s : State) (p : Inputs) (t : State) : (afterAction s p t).unk =
    if (p.regWe = true ∧ p.regAddr = 2#2) ∧ p.regWdata.getLsbD 1 = true ∧ unkSetNow s = false
    then false else t.unk := by
  by_cases hw : p.regWe = true ∧ p.regAddr = 2#2
  · simp [afterAction, regWrite, writesReg, hw, apply_ite State.unk]
  · simp [afterAction, regWrite, writesReg, hw, apply_ite State.unk]

/-- No state action touches the host's registers. -/
theorem ActionCase.hostRegs {tick : Bool} {s t u : State} (h : ActionCase tick s t u) :
    u.unit = t.unit ∧ u.lenient = t.lenient := by
  cases h <;> simp

/-- The search sets `unk` in a cycle exactly when it reaches the sentinel (`41_char_index.md` R136). -/
theorem unkSetNow_iff (s : State) : unkSetNow s = true ↔
    s.fsm = .scan ∧ s.cfg.charRom.read s.idx.toNat = some s.cfg.sentinel := by
  simp [unkSetNow, atSentinel]

/-- The search leaves `unk` alone in every other cycle. -/
theorem unkSetNow_eq_false_iff (s : State) : unkSetNow s = false ↔
    ¬ (s.fsm = .scan ∧ s.cfg.charRom.read s.idx.toNat = some s.cfg.sentinel) := by
  rw [← unkSetNow_iff, Bool.not_eq_true]

/-- A state action sets `unk` exactly when the search reaches the sentinel, and never clears it. -/
theorem ActionCase.unk {tick : Bool} {s t u : State} (h : ActionCase tick s t u) :
    u.unk = (t.unk || unkSetNow s) := by
  cases h with
  | unknown hf hr => simp [(unkSetNow_iff s).2 ⟨hf, hr⟩]
  | found w hf hr | miss hf hr => simp [(unkSetNow_eq_false_iff s).2 (hr ·.2)]
  | wait hf | drop hf | take hf | endChar hf | loadGap hf | loadSym e hf | count hf | expire hf
  | close hf =>
    have hscan : s.fsm ≠ .scan := fun hc => by simp [hc] at hf
    simp [(unkSetNow_eq_false_iff s).2 (hscan ·.1)]

/-- `LOOKUP` changes only at the end of a search (`41_char_index.md` R139). -/
theorem ActionCase.lookup {tick : Bool} {s t u : State} (h : ActionCase tick s t u) :
    (u.lkChar, u.lkFound, u.lkIdx) = (t.lkChar, t.lkFound, t.lkIdx)
    ∨ s.fsm = .scan ∧ u.lkChar = s.curChar ∧ u.lkIdx = s.idx
      ∧ (u.lkFound = true ↔ s.cfg.charRom.read s.idx.toNat ≠ some s.cfg.sentinel) := by
  cases h with
  | unknown hf hr => exact .inr ⟨hf, by simp, by simp, by simp [hr]⟩
  | found w hf hr => exact .inr ⟨hf, rfl, rfl, by simp [hr]⟩
  | count => exact .inl (by simp)
  | _ => exact .inl rfl

/-- `unk` after a step without reset: the search set it, or it stood and was not cleared. -/
theorem step_unk_iff {s t : State} (h : step s = .next t) (hr : s.pins.rst = false) :
    t.unk = true ↔
      (s.fsm = .scan ∧ s.cfg.charRom.read s.idx.toNat = some s.cfg.sentinel)
      ∨ s.unk = true ∧ ¬ ((s.pins.regWe = true ∧ s.pins.regAddr = 2#2)
          ∧ s.pins.regWdata.getLsbD 1 = true) := by
  obtain ⟨u, hu, rfl⟩ := step_cases h hr
  have hunk : u.unk = (s.unk || unkSetNow s) := by simpa using hu.unk
  rw [edge, advance_unk, afterAction_unk, hunk, ← unkSetNow_iff]
  cases unkSetNow s with
  | true => simp
  | false =>
    by_cases hw : (s.pins.regWe = true ∧ s.pins.regAddr = 2#2) ∧ s.pins.regWdata.getLsbD 1 = true
    · rw [if_pos ⟨hw.1, hw.2, rfl⟩]
      tauto
    · rw [if_neg (fun hc => hw ⟨hc.1, hc.2.1⟩), Bool.or_false]
      tauto

/-- `unk` is 0 after reset (`10_state.md` R48). -/
theorem step_unk_of_reset {s t : State} (h : step s = .next t) (hr : s.pins.rst = true) :
    t.unk = false := by
  obtain rfl := step_of_reset h hr
  rfl

/-- `unk` shows as `STATUS[1]` (`44_host_ops.md` R217). -/
theorem regRead_status_unk (s : State) : (regRead s 2#2).getLsbD 1 = s.unk := by
  have hbits (a b c d : Bool) : ((bit a ++ bit b ++ bit c ++ bit d).setWidth 16).getLsbD 1 = c := by
    revert a b c d; decide
  exact hbits s.skip s.fatal s.unk (busy s)

/-- Settles O51, from the value of `unk` after a step with and without reset. -/
theorem unkChangesOnlyBySearchWriteOrReset : Obligations.UnkChangesOnlyBySearchWriteOrReset := by
  refine ⟨fun s t hst => ?_, regRead_status_unk, rfl⟩
  cases hr : s.pins.rst
  · have hunk := step_unk_iff hst hr
    refine ⟨fun hset hclr => .inr ?_, fun hclr hset => ?_,
      fun _ hscan hread => hunk.2 (.inl ⟨hscan, hread⟩), fun _ hwe haddr hbit hno => ?_, nofun⟩
    · by_contra hkeep
      have hstays := hunk.2 (.inr ⟨hset, fun hc => hkeep ⟨hc.1.1, hc.1.2, hc.2⟩⟩)
      simp [hclr] at hstays
    · obtain hsearch | ⟨hstood, -⟩ := hunk.1 hset
      · exact ⟨rfl, hsearch⟩
      · simp [hclr] at hstood
    · refine Bool.eq_false_iff.2 fun hset => ?_
      obtain hsearch | ⟨-, hno_write⟩ := hunk.1 hset
      · exact hno hsearch
      · exact hno_write ⟨⟨hwe, haddr⟩, hbit⟩
  · have hunk := step_unk_of_reset hst hr
    simp [hunk]

/-- Settles O52: the registers are written at the end of the cycle, `LOOKUP` by the search. -/
theorem registersHaveOneWriter : Obligations.RegistersHaveOneWriter := by
  intro s t hst hr
  obtain ⟨u, hu, rfl⟩ := step_cases hst hr
  obtain ⟨hunit, hlenient⟩ := hu.hostRegs
  refine ⟨?_, ?_, fun hne => ?_⟩
  · simp [edge, afterAction_unit, hunit]
  · simp [edge, afterAction_lenient, hlenient]
  · obtain hsame | hsearch := hu.lookup
    · exact absurd (by simpa [edge] using hsame) hne
    · simpa [edge] using hsearch

/-! ### Who writes the event registers -/

/-- The host keeps the message when it neither resets nor writes ABORT. -/
theorem keepsMessage_iff (p : Inputs) : keepsMessage p = true ↔ p.rst = false ∧ aborts p = false := by
  simp [keepsMessage]

/-- Without reset and ABORT the end of a cycle is the register write. -/
theorem edge_of_keepsMessage {s u : State} {p : Inputs} (h : keepsMessage p = true) :
    edge s p u = advance s p (regWrite s p u) := by
  rw [edge, afterAction_of_not_abort ((keepsMessage_iff p).1 h).2]

/-- What a load puts into the event registers: units times `UNIT` ticks, all still to count. -/
theorem loadEvent_ticks {s t : State} {e : Event}
    (he : e.units = 1#3 ∨ e.units = 3#3 ∨ e.units = 7#3) :
    (loadEvent s e t).evTicks.toNat = (loadEvent s e t).evUnits.toNat * s.unit.toNat
      ∧ (loadEvent s e t).cnt = (loadEvent s e t).evTicks :=
  ⟨ratioTicks_toNat e.units s.unit he, rfl⟩

/-- A state action whose strobe was down leaves it down with the event registers as they were, or
raises it with a load (`43_timing.md` R181). -/
theorem ActionCase.strobe {tick : Bool} {s t u : State} (h : ActionCase tick s t u)
    (ht : t.evStb = false) :
    (u.evStb = false ∧ u.evOn = t.evOn ∧ u.evUnits = t.evUnits ∧ u.evTicks = t.evTicks)
    ∨ (u.evStb = true ∧ u.evTicks.toNat = u.evUnits.toNat * s.unit.toNat ∧ u.cnt = u.evTicks
        ∧ (s.fsm = .unpack ∨ s.fsm = .tGap)) := by
  cases h with
  | loadGap hf =>
    obtain ⟨hticks, hcnt⟩ := loadEvent_ticks (s := s) (t := t) (gapEvent_units s.firstSym)
    exact .inr ⟨rfl, hticks, hcnt, .inl hf⟩
  | loadSym e hf he =>
    obtain ⟨hticks, hcnt⟩ := loadEvent_ticks (s := s) (t := t) (symEvent_spec he).2.1
    exact .inr ⟨rfl, hticks, hcnt, hf.imp And.left And.left⟩
  | unknown | count => exact .inl (by simp [ht])
  | _ => exact .inl ⟨ht, rfl, rfl, rfl⟩

/-- Settles O53: the strobe falls before the state action, and only a load raises it. -/
theorem strobeMarksEveryLoad : Obligations.StrobeMarksEveryLoad := by
  intro s t _ hst hk
  obtain ⟨hr, -⟩ := (keepsMessage_iff s.pins).1 hk
  obtain ⟨u, hu, rfl⟩ := step_cases hst hr
  rw [edge_of_keepsMessage hk]
  obtain ⟨hstb, hsame⟩ | ⟨hstb, hload⟩ := hu.strobe (beforeAction_evStb s s.pins)
  · exact ⟨fun _ => by simpa using hsame, fun hc => by simp [hstb] at hc⟩
  · exact ⟨fun hc => by simp [hstb] at hc, fun _ => by simpa using hload⟩

/-! ### The character that waits -/

/-- In a state that meets the invariants the state action answers a next state
(`45_cycle_fsm.md` R250): the search reads inside the tables, and a gap waits for a symbol. -/
theorem exists_fsmAction {s : State} (h : Inv s) (tick : Bool) (t : State) :
    ∃ u, fsmAction tick s t = .next u := by
  cases hf : s.fsm with
  | idle => exact ⟨idleAction s t, by simp [fsmAction, hf]⟩
  | scan =>
    have ha := h.aligned (h.fatal_false (.inl (by simp [hf])))
    obtain ⟨c, hr⟩ := aligned_charRom_reads ha h.idxBound
    simp only [fsmAction, hf, scanAction_next_iff, hr]
    by_cases hc : c = s.cfg.sentinel
    · exact ⟨_, c, rfl, .inl ⟨hc, rfl⟩⟩
    · by_cases hcur : c = s.curChar
      · have hne : s.idx.toNat ≠ s.cfg.nChars := fun hn =>
          hc (Option.some.inj (hr.symm.trans ((aligned_sentinel_iff ha h.idxBound).2 hn)))
        obtain ⟨w, hw⟩ := aligned_recWord ha (lt_of_le_of_ne h.idxBound hne)
        exact ⟨_, c, rfl, .inr (.inl ⟨hc, hcur, w, hw, rfl⟩)⟩
      · exact ⟨_, c, rfl, .inr (.inr ⟨hc, hcur, rfl⟩)⟩
  | unpack =>
    simp only [fsmAction, hf, unpackAction_next_iff]
    cases hd : recordFinished s
    · cases hg : needGap s.cfg.wbAbsorb s.havePrev s.prevWb (headSymbol s.sr)
      · obtain ⟨e, he⟩ := symEvent_isSome (head_ne_terminator_of_not_finished hd).1
        exact ⟨_, .inr (.inr ⟨rfl, rfl, e, he, rfl⟩)⟩
      · exact ⟨_, .inr (.inl ⟨rfl, rfl, rfl⟩)⟩
    · exact ⟨_, .inl ⟨rfl, rfl⟩⟩
  | tGap =>
    simp only [fsmAction, hf, gapAction_next_iff]
    obtain ⟨e, he⟩ := symEvent_isSome (h.gapHead hf).1
    by_cases hc : s.cnt = 0#19
    · exact ⟨_, .inl ⟨hc, e, he, rfl⟩⟩
    · exact ⟨_, .inr ⟨hc, rfl⟩⟩
  | tSym => exact ⟨symAction tick s t, by simp [fsmAction, hf]⟩
  | done => exact ⟨endMessage t, by simp [fsmAction, hf]⟩

/-- A core that holds a character takes no other one (`44_host_ops.md` R202). -/
theorem beforeAction_of_holdValid {s : State} (p : Inputs) (h : s.holdValid = true) :
    beforeAction s p = { s with evStb := false } := by
  simp [beforeAction, transfer, transfers, inReady, h]

/-- Outside `IDLE` and `SCAN` no state action touches the held character and the character under way. -/
theorem ActionCase.keeps_characters {tick : Bool} {s t u : State} (h : ActionCase tick s t u)
    (hi : s.fsm ≠ .idle) (hs : s.fsm ≠ .scan) :
    u.holdValid = t.holdValid ∧ u.holdChar = t.holdChar ∧ u.holdLast = t.holdLast
      ∧ u.curChar = t.curChar ∧ u.curLast = t.curLast ∧ u.idx = t.idx := by
  cases h with
  | wait hf | drop hf | take hf => exact absurd hf hi
  | unknown hf | found w hf | miss hf => exact absurd hf hs
  | endChar | loadGap | loadSym | count | expire | close => simp

/-- The code word of a row of the character tables is its character code. -/
theorem encode_characterTable :
    ∀ r ∈ (Instr.sentinel, 0x00#8, 0x00#8, 40, 0x0000#16) :: Claims.characterTable,
      encode r.1 = .char8 r.2.1 := by
  decide

/-- The cycle of a state that holds a character while the core is busy. -/
theorem cycle_keeps_held_character {s : State} (h : Inv s) (hk : keepsMessage s.pins = true)
    (hi : s.fsm ≠ .idle) (hs : s.fsm ≠ .scan) (hv : s.holdValid = true) :
    ∃ t, cycle s = .next t ∧ t.holdValid = true ∧ t.holdChar = s.holdChar ∧ t.holdLast = s.holdLast
      ∧ t.curChar = s.curChar ∧ t.curLast = s.curLast ∧ t.idx = s.idx := by
  obtain ⟨hr, -⟩ := (keepsMessage_iff s.pins).1 hk
  obtain ⟨u, hu⟩ := exists_fsmAction h s.pins.tick (beforeAction s s.pins)
  have hkeep := (fsmAction_cases hu).keeps_characters hi hs
  rw [beforeAction_of_holdValid s.pins hv] at hkeep
  refine ⟨_, clock_of_action h.cfgSupported hr hu, ?_⟩
  rw [edge_of_keepsMessage hk]
  simpa [hv] using hkeep

/-- Settles O36: the row's meaning is the cycle with its code in the holding register, which that
cycle leaves alone. -/
theorem characterWaitsWhileTheCoreIsBusy : Obligations.CharacterWaitsWhileTheCoreIsBusy := by
  intro r hr s h hk hi hs
  have hfatal : s.fatal = false := h.fatal_false (.inl hi)
  have hexec : exec r.1 s = cycle { s with holdValid := true, holdChar := r.2.1 } := by
    rw [exec_eq_cycleOfWord_encode, encode_characterTable r hr, cycleOfWord, State.placeChar, if_neg hs]
  have hheld : Inv { s with holdValid := true, holdChar := r.2.1 } :=
    { h with fatalIdle := fun hc => absurd (hfatal.symm.trans hc) Bool.false_ne_true }
  rw [hexec]
  exact cycle_keeps_held_character hheld hk hi hs rfl

/-! ### The reset state -/

/-- The spec's tables are aligned (`00_scope.md` R7 (a)). -/
theorem specConfig_aligned : tableAligned specConfig = true := by decide

/-- Settles O25: every value of R48 as written, with `fatal` from the aligned tables. -/
theorem resetStateHasTheSpecValues : Obligations.ResetStateHasTheSpecValues := by
  have hfatal : State.reset.fatal = false := by simp [State.reset, specConfig_aligned]
  have hout : outputs State.reset 0#2 =
      ⟨true, false, false, false, 0#3, 0#19, false, false, 0x0001#16⟩ := by
    rw [outputs, inReady, hfatal]
    rfl
  have hstatus : regRead State.reset 2#2 = 0#16 := by
    simp only [regRead, hfatal]
    rfl
  exact ⟨rfl, rfl, rfl, rfl, rfl, rfl, rfl, rfl, rfl, rfl, rfl, rfl, rfl, rfl, rfl, rfl, rfl, rfl, rfl,
    hfatal, rfl, rfl, rfl, rfl, rfl, rfl, hout, rfl, hstatus, rfl⟩

end Sys2Proof.Machine
end

section
/-! PROOFS. `20_memory.md`: the two ROMs are read only. A clock edge writes the configuration nowhere
and `fatal` only by reset, and putting a code word at its place touches neither of them nor the reset
input. -/

namespace Sys2Proof.Machine

/-! ### What a clock edge leaves of the configuration and of `fatal` -/

/-- No state action touches the configuration or `fatal`: the search reads the ROMs and writes neither
(`20_memory.md` R61). -/
theorem ActionCase.cfg_fatal {tick : Bool} {s t u : State} (h : ActionCase tick s t u) :
    u.cfg = t.cfg ∧ u.fatal = t.fatal := by
  cases h with
  | unknown | count => simp
  | _ => exact ⟨rfl, rfl⟩

/-- A clock edge leaves the configuration alone, with reset or without. -/
theorem clock_keeps_cfg {s t : State} {p : Inputs} (h : clock s p = .next t) : t.cfg = s.cfg := by
  obtain ⟨-, ⟨-, rfl⟩ | ⟨-, u, hu, rfl⟩⟩ := (clock_next_iff s p t).1 h
  · rfl
  · simpa [edge] using (fsmAction_cases hu).cfg_fatal.1

/-- Without reset a clock edge leaves `fatal` alone (`10_state.md` R37), ABORT included. -/
theorem clock_keeps_fatal {s t : State} {p : Inputs} (h : clock s p = .next t) (hr : p.rst = false) :
    t.fatal = s.fatal := by
  obtain ⟨-, ⟨hrst, -⟩ | ⟨-, u, hu, rfl⟩⟩ := (clock_next_iff s p t).1 h
  · simp [hr] at hrst
  · simpa [edge] using (fsmAction_cases hu).cfg_fatal.2

/-! ### What putting a code word at its place leaves alone -/

/-- Putting a character at its place leaves `fatal` alone. -/
@[simp] theorem placeChar_fatal (c : Byte) (s : State) : (s.placeChar c).fatal = s.fatal := by
  unfold State.placeChar
  split <;> rfl

/-- Putting a character at its place leaves the host's inputs alone. -/
@[simp] theorem placeChar_pins (c : Byte) (s : State) : (s.placeChar c).pins = s.pins := by
  unfold State.placeChar
  split <;> rfl

/-- Putting a symbol at its place leaves the host's inputs alone. -/
@[simp] theorem placeSymbol_pins (f : Symbol) (s : State) : (s.placeSymbol f).pins = s.pins := rfl

/-- The cycle of a word is a clock edge from a state with the same configuration and the same `fatal`,
with the reset input as the host drives it (`30_encoding.md` R95). -/
theorem exists_clock_of_cycleOfWord_same_rst (w : CodeWord) (s : State) :
    ∃ r p, r.cfg = s.cfg ∧ r.fatal = s.fatal ∧ p.rst = s.pins.rst ∧ cycleOfWord w s = clock r p := by
  cases w with
  | sym2 c => exact ⟨s.placeSymbol (Symbol.ofCode c), _, by simp, by simp, by simp, rfl⟩
  | char8 c => exact ⟨s.placeChar c, _, by simp, by simp, by simp, rfl⟩
  | charin9 w => exact ⟨s, putcPins _ _ s.pins, rfl, rfl, rfl, rfl⟩
  | regw18 w => exact ⟨s, writePins _ _ s.pins, rfl, rfl, rfl, rfl⟩
  | regr2 a => exact ⟨s, readPins a s.pins, rfl, rfl, rfl, rfl⟩

/-! ### The obligation -/

/-- Settles O49: an instruction's meaning is the cycle of its encoded word, a clock edge from a state
with the same configuration, `fatal` and reset input. -/
theorem noInstructionWritesTheTables : Obligations.NoInstructionWritesTheTables := by
  intro i s t hexec
  obtain ⟨r, p, hcfg, hfatal, hrst, hclock⟩ := exists_clock_of_cycleOfWord_same_rst (encode i) s
  have hedge : clock r p = .next t := by rw [← hclock, ← exec_eq_cycleOfWord_encode, hexec]
  exact ⟨(clock_keeps_cfg hedge).trans hcfg,
    fun hr => (clock_keeps_fatal hedge (hrst.trans hr)).trans hfatal⟩

end Sys2Proof.Machine
end

section
/-! PROOFS. `30_encoding.md`: decode and encode are inverse to each other, the `CHAR8` rows select what
the table search selects, and a register write depends on its defined data bits only. -/

namespace Sys2Proof.Machine

/-! ### The words that are fields side by side -/

/-- The flag bit of a PUTC word as a field of width 1 (`30_encoding.md` R85). -/
theorem bit_getLsbD_eq_extract (w : BitVec 9) : bit (w.getLsbD 8) = w.extractLsb' 8 1 := by
  apply BitVec.eq_of_getLsbD_eq
  intro i hi
  obtain rfl : i = 0 := by omega
  simp [bit]

/-- A PUTC word is its two fields (R85). -/
theorem encode_putc_fields (w : BitVec 9) :
    encode (.putc (w.getLsbD 8) (w.extractLsb' 0 8)) = .charin9 w := by
  rw [encode, bit_getLsbD_eq_extract]
  exact congrArg CodeWord.charin9 (BitVec.extractLsb'_append_extractLsb' (x := w) (w := 1) (len := 8))

/-- The decoder reads the address and the data of a register write back (R86). -/
theorem decodeRegWrite_append (a : RegAddr) (v : Word16) : decodeRegWrite (a ++ v) =
    if a = 0#2 then .wrUnit v else if a = 1#2 then .wrCtrl v
    else if a = 2#2 then .wrStatus v else .wrLookup v := by
  simp only [decodeRegWrite, extract_append_high, extract_append_low]

/-- A register address is one of the four registers' (R86, R87). -/
theorem regAddr_cases (a : RegAddr) : a = 0#2 ∨ a = 1#2 ∨ a = 2#2 ∨ a = 3#2 := by
  revert a; decide

/-- The encoding of a register write that the decoder reads is its address and data (R86). -/
theorem encode_decodeRegWrite_append (a : RegAddr) (v : Word16) :
    encode (decodeRegWrite (a ++ v)) = regWriteWord a v := by
  rw [decodeRegWrite_append]
  rcases regAddr_cases a with rfl | rfl | rfl | rfl <;> rfl

/-- The encoding of the register write that a word decodes to is the word (R86). -/
theorem encode_decodeRegWrite (w : BitVec 18) : encode (decodeRegWrite w) = .regw18 w := by
  have hw : w.extractLsb' 16 2 ++ w.extractLsb' 0 16 = w :=
    BitVec.extractLsb'_append_extractLsb' (x := w) (w := 2) (len := 16)
  calc encode (decodeRegWrite w)
      = encode (decodeRegWrite (w.extractLsb' 16 2 ++ w.extractLsb' 0 16)) := by rw [hw]
    _ = .regw18 w := by rw [encode_decodeRegWrite_append, regWriteWord, hw]

/-- The encoding of the register read that an address decodes to is the address (R87). -/
theorem encode_decodeRegRead (a : RegAddr) : encode (decodeRegRead a) = .regr2 a := by
  rcases regAddr_cases a with rfl | rfl | rfl | rfl <;> rfl

/-- The encoding of a symbol's instruction is the symbol's code (R80). -/
theorem encode_decodeSymbol (c : SymCode) : encode (decodeSymbol c) = .sym2 c := by
  have hcode : encode (decodeSymbol c) = .sym2 (Symbol.ofCode c).code := by
    rw [decodeSymbol]
    cases Symbol.ofCode c <;> rfl
  rw [hcode, code_ofCode]

/-! ### The rows of the character codes -/

/-- What an accepted character code tells: a row that it matches, and that row's instruction
(`30_encoding.md` R83, R97). -/
theorem exists_row_of_decodeChar {c : Byte} {i : Instr} (h : decodeChar c = .ok i) :
    ∃ r ∈ charRows, (c &&& r.mask) = r.pattern ∧ i = r.make (c.getLsbD 5) := by
  unfold decodeChar at h
  split at h
  next r hr =>
    cases h
    exact ⟨r, List.mem_of_find?_eq_some hr, by simpa using List.find?_some hr, rfl⟩
  next => cases h

/-- A refused character code is refused by its own value (R91). -/
theorem decodeChar_error {c : Byte} {e : DecodeError} (h : decodeChar c = .error e) :
    e = .unknownCharacter c := by
  unfold decodeChar at h
  split at h
  next => cases h
  next => cases h; rfl

/-- The row's instruction is encoded as the code it was decoded from, for every code the row matches. -/
def RowEncodesBack (r : CharRow) : Prop :=
  ∀ c : Byte, (c &&& r.mask) = r.pattern → encode (r.make (c.getLsbD 5)) = .char8 c

/-- An exact row matches its own code only (R83). -/
theorem rowEncodesBack_exact {code : Byte} {i : Instr} (h : encode i = .char8 code) :
    RowEncodesBack (.exact code i) := by
  intro c hc
  have hcode : c = code := BitVec.and_allOnes.symm.trans hc
  exact hcode ▸ h

/-- A letter's row leaves bit 5 free, and the instruction keeps it (R83). -/
theorem rowEncodesBack_letter {upper : Byte} {i : Bool → Instr}
    (h : ∀ lower, encode (i lower) = .char8 (letterCode upper lower)) :
    RowEncodesBack (.letter upper i) := by
  intro c hc
  have hupper : (c &&& 0xDF#8) = upper := hc
  have hbits : ∀ d : Byte, letterCode (d &&& 0xDF#8) (d.getLsbD 5) = d := by decide
  calc encode (i (c.getLsbD 5))
      = .char8 (letterCode upper (c.getLsbD 5)) := h _
    _ = .char8 c := by rw [← hupper, hbits]

/-- The digits' rows are exact. -/
theorem rowEncodesBack_digitRows : ∀ r ∈ digitRows, RowEncodesBack r := by
  simp only [digitRows, List.forall_mem_cons]
  and_intros
  on_goal -1 => exact List.forall_mem_nil _
  all_goals exact rowEncodesBack_exact rfl

/-- The letters' rows leave bit 5 free. -/
theorem rowEncodesBack_letterRows : ∀ r ∈ letterRows, RowEncodesBack r := by
  simp only [letterRows, List.forall_mem_cons]
  and_intros
  on_goal -1 => exact List.forall_mem_nil _
  all_goals exact rowEncodesBack_letter fun _ => rfl

/-- The other rows, the sentinel's included, are exact. -/
theorem rowEncodesBack_otherRows : ∀ r ∈ otherRows, RowEncodesBack r := by
  simp only [otherRows, List.forall_mem_cons]
  and_intros
  on_goal -1 => exact List.forall_mem_nil _
  all_goals exact rowEncodesBack_exact rfl

/-- Every row of the opcode table encodes back. -/
theorem rowEncodesBack_charRows {r : CharRow} (h : r ∈ charRows) : RowEncodesBack r := by
  simp only [charRows, List.mem_append] at h
  obtain (h | h) | h := h
  · exact rowEncodesBack_digitRows r h
  · exact rowEncodesBack_letterRows r h
  · exact rowEncodesBack_otherRows r h

/-- The encoding of the instruction that a character code decodes to is the code (R83). -/
theorem encode_of_decodeChar {c : Byte} {i : Instr} (h : decodeChar c = .ok i) :
    encode i = .char8 c := by
  obtain ⟨r, hr, hmatch, rfl⟩ := exists_row_of_decodeChar h
  exact rowEncodesBack_charRows hr c hmatch

/-! ### The rows of `46_char_table.md` -/

/-- The rows of R400 to R440: the 40 characters, and the sentinel with its ordinal. -/
def codeRows : List (Instr × Byte × Byte × Nat × Word16) :=
  (.sentinel, 0x00#8, 0x00#8, 40, 0x0000#16) :: Claims.characterTable

/-- An instruction whose word is a character code has a row of R400 to R440. -/
theorem exists_row_of_encode_char8 {i : Instr} {c : Byte} (h : encode i = .char8 c) :
    ∃ r ∈ codeRows, r.1 = i := by
  rw [← List.mem_map]
  cases i with
  | terminator | dot | dash | wordBreak | putc | wrUnit | wrCtrl | wrStatus | wrLookup
  | rdUnit | rdCtrl | rdStatus | rdLookup => cases h
  | charA lower | charB lower | charC lower | charD lower | charE lower | charF lower | charG lower
  | charH lower | charI lower | charJ lower | charK lower | charL lower | charM lower | charN lower
  | charO lower | charP lower | charQ lower | charR lower | charS lower | charT lower | charU lower
  | charV lower | charW lower | charX lower | charY lower | charZ lower =>
    clear h
    revert lower
    decide
  | _ => decide

/-- The code of a row decodes to the row's instruction. -/
theorem decode_codeRows : ∀ r ∈ codeRows, decode (.char8 r.2.1) = .ok r.1 := by decide

/-- A character's code decodes to that character. -/
theorem decode_of_encode_char8 {i : Instr} {c : Byte} (h : encode i = .char8 c) :
    decode (.char8 c) = .ok i := by
  obtain ⟨r, hr, rfl⟩ := exists_row_of_encode_char8 h
  rw [← h, encode_characterTable r hr]
  exact decode_codeRows r hr

/-! ### Decode and encode -/

/-- Settles O1: a symbol or register read has one word, a character the code of its row, and the other
words have their operands as fields. -/
theorem encodedInstructionsDecodeBack : Obligations.EncodedInstructionsDecodeBack := by
  intro i
  cases i with
  | terminator | dot | dash | wordBreak | rdUnit | rdCtrl | rdStatus | rdLookup => rfl
  | putc last c => simp only [encode, decode, getLsbD_bit_append, extract_append_low]
  | wrUnit v => exact congrArg Except.ok (decodeRegWrite_append 0#2 v)
  | wrCtrl v => exact congrArg Except.ok (decodeRegWrite_append 1#2 v)
  | wrStatus v => exact congrArg Except.ok (decodeRegWrite_append 2#2 v)
  | wrLookup v => exact congrArg Except.ok (decodeRegWrite_append 3#2 v)
  | _ => exact decode_of_encode_char8 rfl

/-- Settles O2, by the format of the word. -/
theorem decodedWordsEncodeBack : Obligations.DecodedWordsEncodeBack := by
  intro w i h
  cases w with
  | sym2 c => cases h; exact encode_decodeSymbol c
  | char8 c => exact encode_of_decodeChar h
  | charin9 w => cases h; exact encode_putc_fields w
  | regw18 w => cases h; exact encode_decodeRegWrite w
  | regr2 a => cases h; exact encode_decodeRegRead a

/-- Settles O3: five of the words are the encodings of their instructions, written out, and `#` matches
no row. -/
theorem writtenOutWordsDecode : Obligations.WrittenOutWordsDecode :=
  ⟨encodedInstructionsDecodeBack .dash, encodedInstructionsDecodeBack (.charA true),
    encodedInstructionsDecodeBack (.putc true 0x45#8),
    encodedInstructionsDecodeBack (.wrCtrl 0x0003#16), encodedInstructionsDecodeBack .rdLookup, rfl⟩

/-! ### The search and the rows -/

/-- The search from entry `i` on for a code that no entry has ends at the sentinel
(`41_char_index.md` R131, R133). -/
theorem indexFrom_of_absent {cfg : Config} {n : Byte} (h : tableAligned cfg = true)
    (habsent : ∀ i, i < cfg.nChars → cfg.charRom.read i ≠ some n) (k i : Nat)
    (hi : i + k = cfg.nChars) : indexFrom cfg n (k + 1) i = .error (.unknownCharacter n none) := by
  induction k generalizing i with
  | zero =>
    have hread : cfg.charRom.read i = some cfg.sentinel := (aligned_sentinel_iff h (by omega)).2 hi
    simp [indexFrom, hread]
  | succ k ih =>
    obtain ⟨c, hread⟩ := aligned_charRom_reads h (i := i) (by omega)
    have hsentinel : c ≠ cfg.sentinel := by
      rintro rfl
      have := (aligned_sentinel_iff h (by omega)).1 hread
      omega
    have hn : c ≠ n := by
      rintro rfl
      exact habsent i (by omega) hread
    rw [indexFrom]
    simpa [hread, hsentinel, hn] using ih (i + 1) (by omega)

/-- `IndexOf` fails with the normalised code for a character whose normalised code no entry has. -/
theorem indexOf_of_absent {cfg : Config} {c : Byte} (h : tableAligned cfg = true)
    (habsent : ∀ i, i < cfg.nChars → cfg.charRom.read i ≠ some (normalize c)) :
    indexOf cfg c = .error (.unknownCharacter (normalize c) none) :=
  indexFrom_of_absent h habsent cfg.nChars 0 (Nat.zero_add _)

/-- `IndexOf` and `Lookup` give a row its ordinal and its record word (`46_char_table.md`). -/
theorem search_characterTable : ∀ r ∈ Claims.characterTable,
    indexOf specConfig r.2.1 = .ok r.2.2.2.1 ∧ lookup specConfig r.2.1 = .ok r.2.2.2.2 := by
  decide

/-- A code is its normalised code, or the lowercase form of a letter (`41_char_index.md` R130). -/
theorem normalize_cases (c : Byte) : c = normalize c
    ∨ (0x41#8 ≤ normalize c ∧ normalize c ≤ 0x5A#8 ∧ c = normalize c + 0x20#8) := by
  unfold normalize
  split
  next h => right; bv_omega
  next => left; rfl

/-- Every entry of the table is the code of a row. -/
theorem charBytes_subset_codes : charBytes ⊆ codeRows.map (·.2.1) := by decide

/-- The lowercase code of every letter of the table is the code of a row (`30_encoding.md` R83). -/
theorem lowercase_subset_codes :
    (charBytes.filter fun b => 0x41#8 ≤ b ∧ b ≤ 0x5A#8).map (· + 0x20#8) ⊆ codeRows.map (·.2.1) := by
  decide

/-- A code whose normalised code is in the table is the code of a row. -/
theorem exists_row_of_normalize_mem {c : Byte} (h : normalize c ∈ charBytes) :
    ∃ r ∈ codeRows, r.2.1 = c := by
  rw [← List.mem_map]
  obtain hc | ⟨hlo, hhi, hc⟩ := normalize_cases c
  · rw [hc]
    exact charBytes_subset_codes h
  · rw [hc]
    exact lowercase_subset_codes
      (List.mem_map_of_mem (List.mem_filter.2 ⟨h, decide_eq_true ⟨hlo, hhi⟩⟩))

/-- No entry of the spec's table has the normalised code of a code that matches no row. -/
theorem read_ne_normalize_of_refused {c : Byte} {e : DecodeError} (h : decodeChar c = .error e)
    (i : Nat) : specConfig.charRom.read i ≠ some (normalize c) := by
  intro hread
  have hbyte : charBytes[i]? = some (normalize c) := by
    rw [← hread, specConfig, ← read_ofBytes charBytes 0 i, Nat.zero_add]
  obtain ⟨r, hr, rfl⟩ := exists_row_of_normalize_mem (List.mem_of_getElem? hbyte)
  cases h.symm.trans (decode_codeRows r hr)

/-- Settles O4: an accepted code is the code of its row of the tables, where the search gives the row's
values; a refused code has no entry, so its search ends at the sentinel. -/
theorem characterRowsAgreeWithSearch : Obligations.CharacterRowsAgreeWithSearch := by
  intro c
  refine ⟨fun i h hi => ?_, fun h => ?_, fun e h => ?_⟩
  · have hcode : encode i = .char8 c := encode_of_decodeChar h
    obtain ⟨r, hr, rfl⟩ := exists_row_of_encode_char8 hcode
    obtain rfl : r.2.1 = c := CodeWord.char8.inj ((encode_characterTable r hr).symm.trans hcode)
    obtain rfl | hr := List.mem_cons.1 hr
    · exact absurd rfl hi
    · exact ⟨r.2.2.1, r.2.2.2.1, r.2.2.2.2, hr, search_characterTable r hr⟩
  · obtain rfl : 0x00#8 = c := CodeWord.char8.inj (encode_of_decodeChar h)
    rfl
  · exact ⟨decodeChar_error h,
      indexOf_of_absent specConfig_aligned fun i _ => read_ne_normalize_of_refused h i⟩

/-! ### The data bits of a register write -/

/-- The end of a cycle that writes CTRL takes the mode from bit 0 and ABORT from bit 1
(`44_host_ops.md` R210, R211). -/
theorem afterAction_writeCtrl (v : Word16) (s : State) (p : Inputs) (t : State) :
    afterAction s (writePins 1#2 v p) t =
      if v.getLsbD 1 then abort { t with lenient := v.getLsbD 0 }
      else { t with lenient := v.getLsbD 0 } := by
  simp [afterAction, abortStep, aborts, regWrite, writesReg, writePins]

/-- The end of a cycle that writes STATUS clears `unk` on bit 1 unless the cycle sets it (R212). -/
theorem afterAction_writeStatus (v : Word16) (s : State) (p : Inputs) (t : State) :
    afterAction s (writePins 2#2 v p) t =
      if v.getLsbD 1 && !unkSetNow s then { t with unk := false } else t := by
  simp [afterAction, abortStep, aborts, regWrite, writesReg, writePins]

/-- The end of a cycle that writes LOOKUP changes nothing (R213). -/
theorem afterAction_writeLookup (v : Word16) (s : State) (p : Inputs) (t : State) :
    afterAction s (writePins 3#2 v p) t = t := by
  simp [afterAction, abortStep, aborts, regWrite, writesReg, writePins]

/-- Written data acts at the end of the cycle only: two writes of a register that end every cycle alike
give the same cycle (`45_cycle_fsm.md` R231 steps 4 and 5). -/
theorem clock_writePins_congr {a : RegAddr} {v w : Word16} {s : State} {p : Inputs}
    (h : ∀ t, afterAction s (writePins a v p) t = afterAction s (writePins a w p) t) :
    clock s (writePins a v p) = clock s (writePins a w p) := by
  have hbefore : beforeAction s (writePins a v p) = beforeAction s (writePins a w p) := rfl
  have hedge : ∀ t, edge s (writePins a v p) t = edge s (writePins a w p) t := fun t =>
    congrArg (advance s (writePins a w p)) (h t)
  simp only [clock, hbefore, hedge]
  rfl

/-- Settles O42: the end of the cycle reads bits 0 and 1 of CTRL, bit 1 of STATUS and no bit of
LOOKUP. -/
theorem reservedWriteBitsAreIgnored : Obligations.ReservedWriteBitsAreIgnored := by
  intro v w s
  refine ⟨fun h0 h1 => ?_, fun h1 => ?_, ?_⟩
  · exact clock_writePins_congr fun t => by rw [afterAction_writeCtrl, afterAction_writeCtrl, h0, h1]
  · exact clock_writePins_congr fun t => by rw [afterAction_writeStatus, afterAction_writeStatus, h1]
  · exact clock_writePins_congr fun t => by rw [afterAction_writeLookup, afterAction_writeLookup]

end Sys2Proof.Machine
end

section
/-! PROOFS. `40_record_codec.md`: the slots of a record word, `Unpack` as the one list of leading slots,
`Pack` slot by slot, and the refinement of `Unpack` by the unpacker of the cycle layer. -/

namespace Sys2Proof.Machine

/-! ### The slots of a record word -/

/-- The two bits of a slot (`30_encoding.md` R81). -/
theorem slotCode_getLsbD (w : Word16) (k i : Nat) :
    (slotCode w k).getLsbD i = (decide (i < 2) && w.getLsbD (14 - 2 * k + i)) := by
  simp [slotCode]

/-- A word is its eight slots. -/
theorem eq_of_slotCode_eq {v w : Word16} (h : ∀ k, k < 8 → slotCode v k = slotCode w k) : v = w := by
  apply BitVec.eq_of_getLsbD_eq
  intro i hi
  have hbit := congrArg (BitVec.getLsbD · (i % 2)) (h (7 - i / 2) (by omega))
  have hpos : 14 - 2 * (7 - i / 2) + i % 2 = i := by omega
  have hmod : i % 2 < 2 := Nat.mod_lt i Nat.two_pos
  simpa only [slotCode_getLsbD, hmod, hpos, decide_true, Bool.true_and] using hbit

/-- The shift of the unpacker moves every slot up by one (R122). -/
theorem slotCode_shift {k : Nat} (hk : k < 7) (w : Word16) :
    slotCode (w <<< 2) k = slotCode w (k + 1) := by
  apply BitVec.eq_of_getLsbD_eq
  intro i hi
  have hpos : 14 - 2 * k + i - 2 = 14 - 2 * (k + 1) + i := by omega
  rw [slotCode_getLsbD, slotCode_getLsbD, BitVec.getLsbD_shiftLeft, hpos]
  simp [show 14 - 2 * k + i < 16 by omega, show ¬ (14 - 2 * k + i < 2) by omega]

/-- The slots of the empty word are clear. -/
@[simp] theorem slotCode_zero (k : Nat) : slotCode 0x0000#16 k = 0#2 := by
  simp [slotCode]

/-- A bitwise or is taken slot by slot. -/
theorem slotCode_or (v w : Word16) (k : Nat) :
    slotCode (v ||| w) k = slotCode v k ||| slotCode w k := by
  simp [slotCode, BitVec.extractLsb'_or]

/-- A code shifted to slot `k` stands there and nowhere else. -/
theorem slotCode_placed {j k : Nat} (hj : j < 8) (hk : k < 8) (c : SymCode) :
    slotCode (c.setWidth 16 <<< (14 - 2 * k)) j = if j = k then c else 0#2 := by
  apply BitVec.eq_of_getLsbD_eq
  intro i hi
  simp only [slotCode_getLsbD, BitVec.getLsbD_shiftLeft, BitVec.getLsbD_setWidth, hi, decide_true,
    Bool.true_and]
  split
  next h =>
    subst h
    simp [show 14 - 2 * j + i < 16 by omega, show i < 16 by omega]
  next h =>
    obtain hlt | hge : 14 - 2 * j + i < 14 - 2 * k ∨ 2 ≤ 14 - 2 * j + i - (14 - 2 * k) := by omega
    · simp [hlt]
    · simp [BitVec.getLsbD_of_ge c _ hge]

/-- The symbol in slot `k` of a record word. -/
def slotSymbol (w : Word16) (k : Nat) : Symbol := Symbol.ofCode (slotCode w k)

/-- The symbol under examination is that of slot 0 (R121). -/
theorem slotSymbol_zero (w : Word16) : slotSymbol w 0 = headSymbol w := rfl

/-- A slot with a TERMINATOR is clear (R110). -/
theorem slotSymbol_eq_terminator_iff (w : Word16) (k : Nat) :
    slotSymbol w k = .terminator ↔ slotCode w k = 0#2 := by
  rw [← code_ofCode (slotCode w k), ← slotSymbol]
  cases slotSymbol w k <;> decide

/-! ### Unpack -/

/-- A TERMINATOR ends the symbols (R111). -/
theorem unpackSlots_of_terminator {w : Word16} {n k : Nat} (h : slotSymbol w k = .terminator) :
    unpackSlots w n k = [] := by
  cases n with
  | zero => rfl
  | succ n =>
    rw [slotSymbol] at h
    simp [unpackSlots, h]

/-- Any other symbol is followed by those of the next slots (R111). -/
theorem unpackSlots_of_ne_terminator {w : Word16} {n k : Nat} (h : slotSymbol w k ≠ .terminator) :
    unpackSlots w (n + 1) k = slotSymbol w k :: unpackSlots w n (k + 1) := by
  rw [slotSymbol] at h ⊢
  rw [unpackSlots]
  split
  next ht => exact absurd ht h
  next => rfl

/-- The shifted word unpacks as the word does one slot further on. -/
theorem unpackSlots_shift {n k : Nat} (h : n + k ≤ 7) (w : Word16) :
    unpackSlots (w <<< 2) n k = unpackSlots w n (k + 1) := by
  induction n generalizing k with
  | zero => rfl
  | succ n ih =>
    have hslot : slotSymbol (w <<< 2) k = slotSymbol w (k + 1) := by
      rw [slotSymbol, slotCode_shift (by omega), slotSymbol]
    by_cases ht : slotSymbol w (k + 1) = .terminator
    · rw [unpackSlots_of_terminator ht, unpackSlots_of_terminator (hslot.trans ht)]
    · rw [unpackSlots_of_ne_terminator ht, unpackSlots_of_ne_terminator (hslot ▸ ht), hslot,
        ih (by omega)]

/-- `xs` are the leading symbols of `w` from slot `k` on, up to the first TERMINATOR or `n` of them
(R111, R116). -/
structure LeadingSlots (w : Word16) (n k : Nat) (xs : List Symbol) : Prop where
  /-- at most `n` symbols -/
  bound : xs.length ≤ n
  /-- each the symbol in its slot -/
  symbols : ∀ i, i < xs.length → xs[i]? = some (slotSymbol w (k + i))
  /-- no TERMINATOR among them -/
  proper : Symbol.terminator ∉ xs
  /-- a TERMINATOR in the slot after them, unless there are `n` -/
  stop : xs.length < n → slotSymbol w (k + xs.length) = .terminator

/-- What is unpacked are the leading symbols. -/
theorem leadingSlots_unpackSlots (w : Word16) (n k : Nat) :
    LeadingSlots w n k (unpackSlots w n k) := by
  induction n generalizing k with
  | zero => exact ⟨Nat.le_refl 0, nofun, List.not_mem_nil, nofun⟩
  | succ n ih =>
    by_cases ht : slotSymbol w k = .terminator
    · rw [unpackSlots_of_terminator ht]
      exact ⟨Nat.zero_le _, nofun, List.not_mem_nil, fun _ => ht⟩
    · obtain ⟨hbound, hsymbols, hproper, hstop⟩ := ih (k + 1)
      rw [unpackSlots_of_ne_terminator ht]
      refine ⟨Nat.succ_le_succ hbound, fun i hi => ?_, ?_, fun hlt => ?_⟩
      · cases i with
        | zero => rfl
        | succ i =>
          rw [List.getElem?_cons_succ, hsymbols i (Nat.lt_of_succ_lt_succ hi), Nat.add_right_comm,
            Nat.add_assoc]
      · simp [hproper, Ne.symm ht]
      · rw [List.length_cons, ← Nat.add_assoc, Nat.add_right_comm]
        exact hstop (Nat.lt_of_succ_lt_succ hlt)

/-- No list of leading symbols is shorter than another: where it stops the other has a TERMINATOR. -/
theorem LeadingSlots.length_le {w : Word16} {n k : Nat} {xs ys : List Symbol}
    (hx : LeadingSlots w n k xs) (hy : LeadingSlots w n k ys) : ys.length ≤ xs.length := by
  by_contra hlt
  have hend := hx.stop (by have := hy.bound; omega)
  have hmem := List.mem_of_getElem? (hy.symbols xs.length (by omega))
  exact hy.proper (hend ▸ hmem)

/-- The leading symbols are one list. -/
theorem LeadingSlots.unique {w : Word16} {n k : Nat} {xs ys : List Symbol}
    (hx : LeadingSlots w n k xs) (hy : LeadingSlots w n k ys) : xs = ys := by
  have hlen : xs.length = ys.length := Nat.le_antisymm (hy.length_le hx) (hx.length_le hy)
  apply List.ext_getElem?
  intro i
  by_cases hi : i < xs.length
  · rw [hx.symbols i hi, hy.symbols i (hlen ▸ hi)]
  · rw [List.getElem?_eq_none (by omega), List.getElem?_eq_none (by omega)]

/-- `Unpack` gives the leading symbols of all eight slots. -/
theorem leadingSlots_unpack (w : Word16) : LeadingSlots w 8 0 (unpack w) :=
  leadingSlots_unpackSlots w 8 0

/-- A list of leading symbols is what `Unpack` gives. -/
theorem LeadingSlots.unpack_eq {w : Word16} {xs : List Symbol} (h : LeadingSlots w 8 0 xs) :
    unpack w = xs :=
  (leadingSlots_unpack w).unique h

/-- A symbol that `Unpack` gives is the one in its slot (R111). -/
theorem unpack_getElem? {w : Word16} {k : Nat} (hk : k < (unpack w).length) :
    (unpack w)[k]? = some (slotSymbol w k) := by
  simpa using (leadingSlots_unpack w).symbols k hk

/-- Settles O6: `Unpack` gives the leading symbols. -/
theorem unpackGivesTheLeadingSlots : Obligations.UnpackGivesTheLeadingSlots := by
  intro w
  obtain ⟨hbound, -, hproper, hstop⟩ := leadingSlots_unpack w
  rw [Nat.zero_add] at hstop
  refine ⟨hbound, fun k hk => ⟨unpack_getElem? hk, fun ht => hproper ?_⟩, hstop, hproper⟩
  exact ht ▸ List.mem_of_getElem? (unpack_getElem? hk)

/-- Settles O7: the leading symbols of `w` are the leading symbols of every word with the same slots up
to where they stop. -/
theorem unpackIgnoresSlotsAfterTerminator : Obligations.UnpackIgnoresSlotsAfterTerminator := by
  refine ⟨fun w v hslots => ?_, by decide, by decide⟩
  have hsymbol (k : Nat) (hk : k ≤ (unpack w).length) (h8 : k < 8) :
      slotSymbol w (0 + k) = slotSymbol v (0 + k) := by
    rw [Nat.zero_add, slotSymbol, hslots k hk h8, slotSymbol]
  obtain ⟨hbound, hsymbols, hproper, hstop⟩ := leadingSlots_unpack w
  have hv : LeadingSlots v 8 0 (unpack w) :=
    { bound := hbound
      symbols := fun k hk => hsymbol k (by omega) (by omega) ▸ hsymbols k hk
      proper := hproper
      stop := fun hlt => hsymbol _ (Nat.le_refl _) hlt ▸ hstop hlt }
  exact hv.unpack_eq.symm

/-! ### Pack -/

/-- The code that `Pack` puts into slot `k`: that of symbol `k`, or `00` above the last symbol (R118). -/
def packedCode (xs : List Symbol) (k : Nat) : SymCode := ((xs[k]?).map Symbol.code).getD 0#2

/-- Packing from slot `k` on fills these slots and leaves the ones before, in a word whose slots from
`k` on are clear. -/
theorem slotCode_packSlots {xs : List Symbol} {k j : Nat} {w : Word16} (hlen : k + xs.length ≤ 8)
    (hclear : ∀ i, k ≤ i → i < 8 → slotCode w i = 0#2) (hj : j < 8) :
    slotCode (packSlots xs k w) j = if j < k then slotCode w j else packedCode xs (j - k) := by
  induction xs generalizing k w with
  | nil =>
    rw [packSlots]
    split
    next => rfl
    next h => exact hclear j (by omega) hj
  | cons x xs ih =>
    have hk : k + 1 + xs.length ≤ 8 := by
      rw [List.length_cons] at hlen
      omega
    have hplaced {i : Nat} (hi : i < 8) :
        slotCode (w ||| (x.code.setWidth 16 <<< (14 - 2 * k))) i
          = slotCode w i ||| if i = k then x.code else 0#2 := by
      rw [slotCode_or, slotCode_placed hi (by omega)]
    rw [packSlots, ih hk fun i hki hi => ?_]
    · obtain hlt | rfl | hgt := Nat.lt_trichotomy j k
      · rw [if_pos (by omega), if_pos hlt, hplaced hj, if_neg (by omega), BitVec.or_zero]
      · rw [if_pos (by omega), if_neg (by omega), hplaced hj, if_pos rfl, hclear j (by omega) hj,
          BitVec.zero_or, Nat.sub_self]
        rfl
      · obtain ⟨d, rfl⟩ := Nat.exists_eq_add_of_lt hgt
        rw [if_neg (by omega), if_neg (by omega), show k + d + 1 - (k + 1) = d by omega,
          show k + d + 1 - k = d + 1 by omega]
        rfl
    · rw [hplaced hi, hclear i (by omega) hi, if_neg (by omega), BitVec.or_zero]

/-- `Pack` of at most eight symbols answers the word with their codes in its slots (R118). -/
theorem pack_eq_ok {xs : List Symbol} (h : xs.length ≤ 8) :
    ∃ w, pack xs = .ok w ∧ ∀ k, k < 8 → slotCode w k = packedCode xs k := by
  refine ⟨packSlots xs 0 0x0000#16, if_neg (Nat.not_lt.2 h), fun k hk => ?_⟩
  rw [slotCode_packSlots (by omega) (fun i _ _ => slotCode_zero i) hk, if_neg (Nat.not_lt_zero k),
    Nat.sub_zero]

/-- Settles O10: above eight symbols `Pack` fails, up to eight its slots are the codes. -/
theorem packFillsSlotsOrOverflows : Obligations.PackFillsSlotsOrOverflows :=
  fun _ => ⟨fun h => if_pos h, pack_eq_ok⟩

/-- Settles O8: the symbols are the leading symbols of the word that holds their codes. -/
theorem unpackAfterPackIsIdentity : Obligations.UnpackAfterPackIsIdentity := by
  intro xs hlen hproper
  obtain ⟨w, hw, hslots⟩ := pack_eq_ok hlen
  have hleading : LeadingSlots w 8 0 xs :=
    { bound := hlen
      symbols := fun i hi => by
        simp [slotSymbol, hslots i (by omega), packedCode, hi]
      proper := hproper
      stop := fun hlt => by
        simp [slotSymbol_eq_terminator_iff, hslots _ hlt, packedCode] }
  exact ⟨w, hw, hleading.unpack_eq⟩

/-- The codes of an unpacked word are its own slots up to the first TERMINATOR (R119). -/
theorem packedCode_unpack (w : Word16) (k : Nat) :
    packedCode (unpack w) k = if k < (unpack w).length then slotCode w k else 0#2 := by
  unfold packedCode
  split
  next hk => rw [unpack_getElem? hk, Option.map_some, Option.getD_some, slotSymbol, code_ofCode]
  next hk => rw [List.getElem?_eq_none (by omega), Option.map_none, Option.getD_none]

/-- Settles O9: the packed word has the slots of `w` up to the first TERMINATOR, and a word is its
slots. -/
theorem packAfterUnpackClearsThePadding : Obligations.PackAfterUnpackClearsThePadding := by
  intro w
  obtain ⟨v, hv, hslots⟩ := pack_eq_ok (leadingSlots_unpack w).bound
  simp only [packedCode_unpack] at hslots
  refine ⟨v, hv, hslots, ?_, fun hclear => eq_of_slotCode_eq fun k hk => ?_⟩
  · rintro rfl k hlen hk
    rw [hslots k hk, if_neg (by omega)]
  · rw [hslots k hk]
    split
    next => rfl
    next hlen => exact (hclear k (by omega) hk).symm

/-! ### What a record under way still has to give -/

/-- Some events before those of a group. -/
def prependEvents (evs : List Event) (r : List Event × Bool × Bool) : List Event × Bool × Bool :=
  (evs ++ r.1, r.2)

@[simp] theorem prependEvents_nil (r : List Event × Bool × Bool) : prependEvents [] r = r := rfl

@[simp] theorem prependEvents_append (a b : List Event) (r : List Event × Bool × Bool) :
    prependEvents (a ++ b) r = prependEvents a (prependEvents b r) := by
  simp [prependEvents]

/-- The events of a group are the gap before its first symbol, if any, that symbol's event and the
events of the rest (`43_timing.md` R173). -/
theorem groupEvents_cons (wb : Bool) (f : Symbol) (rest : Group) (first havePrev prevWb : Bool) :
    groupEvents wb (f :: rest) first havePrev prevWb =
      prependEvents (if needGap wb havePrev prevWb f then [gapEvent first] else [])
        (prependEvents (symEvent f).toList (groupEvents wb rest false true (decide (f = .wordBreak)))) := by
  simp [groupEvents, prependEvents]

/-- What the symbols after the one under examination give, once that one has been emitted. -/
def State.tailEvents (s : State) : List Event × Bool × Bool :=
  groupEvents s.cfg.wbAbsorb (unpackSlots s.sr (7 - s.slot.toNat) 1) false true
    (decide (headSymbol s.sr = .wordBreak))

/-- What the record under way gives after the event whose strobe stands: its events, and `have_prev`
and `prev_wb` at its end. Between characters there is nothing left. -/
def State.eventsLeft (s : State) : List Event × Bool × Bool :=
  match s.fsm with
  | .unpack =>
    groupEvents s.cfg.wbAbsorb (unpackSlots s.sr (8 - s.slot.toNat) 0) s.firstSym s.havePrev s.prevWb
  | .tGap => prependEvents (symEvent (headSymbol s.sr)).toList s.tailEvents
  | .tSym => s.tailEvents
  | .idle | .scan | .done => ([], s.havePrev, s.prevWb)

/-- The event whose strobe stands (`43_timing.md` R181). -/
def State.strobedEvents (s : State) : List Event := if s.evStb then [⟨s.evOn, s.evUnits⟩] else []

/-- What the record under way gives from this cycle on. -/
def State.eventsFromNow (s : State) : List Event × Bool × Bool :=
  prependEvents s.strobedEvents s.eventsLeft

/-- What is left in UNPACK are the events of the symbols not yet shifted out. -/
theorem eventsLeft_of_unpack {s : State} (h : s.fsm = .unpack) : s.eventsLeft =
    groupEvents s.cfg.wbAbsorb (unpackSlots s.sr (8 - s.slot.toNat) 0) s.firstSym s.havePrev s.prevWb := by
  simp only [State.eventsLeft, h]

/-- What is left while a gap is timed are the event of the symbol it waits for and the tail. -/
theorem eventsLeft_of_tGap {s : State} (h : s.fsm = .tGap) :
    s.eventsLeft = prependEvents (symEvent (headSymbol s.sr)).toList s.tailEvents := by
  simp only [State.eventsLeft, h]

/-- What is left while a symbol is timed is the tail. -/
theorem eventsLeft_of_tSym {s : State} (h : s.fsm = .tSym) : s.eventsLeft = s.tailEvents := by
  simp only [State.eventsLeft, h]

/-- Nothing is left after the end of a character. -/
theorem eventsLeft_of_ended {s : State} (h : s.fsm = .idle ∨ s.fsm = .done) :
    s.eventsLeft = ([], s.havePrev, s.prevWb) := by
  obtain h | h := h <;> simp only [State.eventsLeft, h]

/-- With the strobe down all is still left. -/
theorem eventsFromNow_of_no_strobe {s : State} (h : s.evStb = false) :
    s.eventsFromNow = s.eventsLeft := by
  simp [State.eventsFromNow, State.strobedEvents, h]

/-- With the strobe up the event loaded comes first. -/
theorem eventsFromNow_of_strobe {s : State} (h : s.evStb = true) :
    s.eventsFromNow = prependEvents [⟨s.evOn, s.evUnits⟩] s.eventsLeft := by
  simp [State.eventsFromNow, State.strobedEvents, h]

/-- The event trace of one cycle is the event whose strobe stands in it (`45_cycle_fsm.md` R260). -/
theorem cycleTraces_events (s t : State) : (cycleTraces s t).events = s.strobedEvents := rfl

/-- A finished record has no symbols left (R121). -/
theorem unpackSlots_of_finished {s : State} (h : recordFinished s = true) :
    unpackSlots s.sr (8 - s.slot.toNat) 0 = [] := by
  obtain hslot | ht : s.slot = 8#4 ∨ headSymbol s.sr = .terminator := by
    simpa [recordFinished] using h
  · rw [hslot]
    rfl
  · exact unpackSlots_of_terminator ((slotSymbol_zero s.sr).trans ht)

/-- A record that is not finished has the symbol under examination and then those of the next slots. -/
theorem Inv.unpackSlots_of_not_finished {s : State} (h : Inv s) (hd : recordFinished s = false) :
    unpackSlots s.sr (8 - s.slot.toNat) 0
      = headSymbol s.sr :: unpackSlots s.sr (7 - s.slot.toNat) 1 := by
  have hslot := h.slot_le_of_not_finished hd
  rw [show 8 - s.slot.toNat = 7 - s.slot.toNat + 1 by omega, ← slotSymbol_zero]
  exact unpackSlots_of_ne_terminator (head_ne_terminator_of_not_finished hd).1

/-- In UNPACK what is left of an unfinished record is the gap before the symbol under examination, if
any, that symbol's event and the tail. -/
theorem Inv.eventsLeft_of_not_finished {s : State} (h : Inv s) (hf : s.fsm = .unpack)
    (hd : recordFinished s = false) : s.eventsLeft =
      prependEvents
        (if needGap s.cfg.wbAbsorb s.havePrev s.prevWb (headSymbol s.sr) then [gapEvent s.firstSym] else [])
        (prependEvents (symEvent (headSymbol s.sr)).toList s.tailEvents) := by
  rw [eventsLeft_of_unpack hf, h.unpackSlots_of_not_finished hd, groupEvents_cons, State.tailEvents]

/-- The expiry of a symbol's event leaves the symbols of the next slots (R122). -/
theorem unpackSlots_of_expired {s : State} (h : s.slot.toNat ≤ 7) :
    unpackSlots (s.sr <<< 2) (8 - (s.slot + 1#4).toNat) 0
      = unpackSlots s.sr (7 - s.slot.toNat) 1 := by
  have hslots : 8 - (s.slot + 1#4).toNat = 7 - s.slot.toNat := by bv_omega
  rw [hslots]
  exact unpackSlots_shift (by omega) s.sr

/-- The register write touches nothing that the events depend on. -/
theorem eventsFromNow_edge {s u : State} {p : Inputs} (h : keepsMessage p = true) :
    (edge s p u).eventsFromNow = u.eventsFromNow := by
  rw [edge_of_keepsMessage h]
  simp [State.eventsFromNow, State.strobedEvents, State.eventsLeft, State.tailEvents]

/-- The control states of a record under way. -/
def State.inRecord (s : State) : Prop := s.fsm = .unpack ∨ s.fsm = .tGap ∨ s.fsm = .tSym

/-- The state action emits the next event that is left, or none and leaves them all. -/
theorem ActionCase.eventsFromNow {s u : State} {p : Inputs} (h : Inv s) (hw : s.inRecord)
    (hu : ActionCase p.tick s (beforeAction s p) u) : u.eventsFromNow = s.eventsLeft := by
  cases hu with
  | wait hf | drop hf | take hf | unknown hf | found w hf | miss hf | close hf =>
    simp [State.inRecord, hf] at hw
  | endChar hf hd =>
    have hended : (endCharacter s (beforeAction s p)).fsm = .idle
        ∨ (endCharacter s (beforeAction s p)).fsm = .done := by
      cases hl : s.curLast <;> simp [hl]
    rw [eventsFromNow_of_no_strobe (by simp), eventsLeft_of_ended hended, eventsLeft_of_unpack hf,
      unpackSlots_of_finished hd]
    simp [groupEvents]
  | loadGap hf hd hg =>
    rw [eventsFromNow_of_strobe rfl, eventsLeft_of_tGap rfl, h.eventsLeft_of_not_finished hf hd,
      if_pos hg]
    simp [State.tailEvents, gapEvent]
  | loadSym e hf he =>
    have hleft : s.eventsLeft = prependEvents [e] s.tailEvents := by
      obtain ⟨hf, hd, hg⟩ | ⟨hf, -⟩ := hf
      · rw [h.eventsLeft_of_not_finished hf hd, hg, he]
        rfl
      · rw [eventsLeft_of_tGap hf, he]
        rfl
    rw [eventsFromNow_of_strobe rfl, eventsLeft_of_tSym rfl, hleft]
    simp [State.tailEvents]
  | count =>
    rw [eventsFromNow_of_no_strobe (by simp)]
    simp [State.eventsLeft, State.tailEvents]
  | expire hf =>
    rw [eventsFromNow_of_no_strobe (by simp), eventsLeft_of_unpack rfl, eventsLeft_of_tSym hf,
      State.tailEvents, ← unpackSlots_of_expired (h.symHead hf).2]
    simp

/-- One cycle of a record under way emits the event whose strobe stands and leaves the others. -/
theorem step_eventsFromNow {s t : State} (h : Inv s) (hw : s.inRecord)
    (hk : keepsMessage s.pins = true) (hst : step s = .next t) :
    s.eventsFromNow = prependEvents (cycleTraces s t).events t.eventsFromNow := by
  obtain ⟨u, hu, rfl⟩ := step_cases hst ((keepsMessage_iff s.pins).1 hk).1
  rw [eventsFromNow_edge hk, hu.eventsFromNow h hw, cycleTraces_events, State.eventsFromNow]

/-! ### Runs of a record under way -/

/-- The inputs of the cycle under way. -/
theorem pinsAt_zero (s : State) : s.pinsAt 0 = s.pins := rfl

/-- A step uses up the inputs of its cycle. -/
theorem pinsAt_of_step {s t : State} (h : step s = .next t) (k : Nat) :
    t.pinsAt k = s.pinsAt (k + 1) := by
  obtain ⟨hhost, hnow⟩ : t.host = s.host.tail ∧ t.now = s.now + 1 := by
    rw [step_eq_cycle] at h
    obtain ⟨-, ⟨-, rfl⟩ | ⟨-, u, -, rfl⟩⟩ := (clock_next_iff s s.pins t).1 h
    · exact ⟨rfl, rfl⟩
    · exact ⟨rfl, rfl⟩
  simp [State.pinsAt, hhost, hnow, Nat.add_assoc, Nat.add_comm 1]

/-- A run of one more cycle after a step. -/
theorem runSteps_of_step {s t : State} (h : step s = .next t) (n : Nat) :
    runSteps (n + 1) s = runSteps n t := by
  simp [runSteps, h]

/-- A run inside one record emits its events one after the other, up to those left at its end. -/
theorem run_eventsFromNow {n : Nat} {s t : State} {tr : Traces} (h : Inv s)
    (hk : ∀ k, k < n → keepsMessage (s.pinsAt k) = true)
    (hw : ∀ k u, k < n → runSteps k s = some u → u.inRecord) (hrun : runTraces n s = some (t, tr)) :
    Inv t ∧ s.eventsFromNow = prependEvents tr.events t.eventsFromNow := by
  induction n generalizing s tr with
  | zero =>
    cases hrun
    exact ⟨h, rfl⟩
  | succ n ih =>
    obtain ⟨v, later, hst, hrest, rfl⟩ := (runTraces_succ_iff n s t tr).1 hrun
    have hv : Inv v := stepKeepsTheInvariants s v h hst
    obtain ⟨ht, hlater⟩ := ih hv
      (fun k hlt => by rw [pinsAt_of_step hst]; exact hk (k + 1) (by omega))
      (fun k u hlt hu => hw (k + 1) u (by omega) (by rw [runSteps_of_step hst, hu])) hrest
    refine ⟨ht, ?_⟩
    calc s.eventsFromNow
        = prependEvents (cycleTraces s v).events v.eventsFromNow :=
          step_eventsFromNow h (hw 0 s (Nat.zero_lt_succ n) rfl)
            (pinsAt_zero s ▸ hk 0 (Nat.zero_lt_succ n)) hst
      _ = prependEvents ((cycleTraces s v).append later).events t.eventsFromNow := by
          rw [hlater, append_events, prependEvents_append]

/-- No strobe stands outside the states that time an event (`10_state.md` R47 (j)). -/
theorem Inv.evStb_false {s : State} (h : Inv s) (hg : s.fsm ≠ .tGap) (hs : s.fsm ≠ .tSym) :
    s.evStb = false :=
  Bool.eq_false_iff.2 fun hstb => (h.strobeTimed hstb).elim hg hs

/-- A record just loaded has all the events of its symbols to give. -/
theorem Inv.eventsFromNow_of_loaded {s : State} (h : Inv s) (hf : s.fsm = .unpack)
    (hslot : s.slot = 0#4) (hfirst : s.firstSym = true) :
    s.eventsFromNow = groupEvents s.cfg.wbAbsorb (unpack s.sr) true s.havePrev s.prevWb := by
  rw [eventsFromNow_of_no_strobe (h.evStb_false (by simp [hf]) (by simp [hf])),
    eventsLeft_of_unpack hf, hslot, hfirst]
  rfl

/-- At the end of a character nothing is left. -/
theorem Inv.eventsFromNow_of_ended {s : State} (h : Inv s) (hf : s.fsm = .idle ∨ s.fsm = .done) :
    s.eventsFromNow = ([], s.havePrev, s.prevWb) := by
  have hstb : s.evStb = false := by
    obtain hf | hf := hf <;> exact h.evStb_false (by simp [hf]) (by simp [hf])
  rw [eventsFromNow_of_no_strobe hstb, eventsLeft_of_ended hf]

/-- Settles O57: a loaded record has the events of its symbols to give, the run emits them one after
the other, and none is left at the end of the character. -/
theorem recordEmitsItsUnpackedEvents : Obligations.RecordEmitsItsUnpackedEvents := by
  intro n s t tr h hf hslot hfirst hk hw hrun hend
  obtain ⟨ht, hevents⟩ := run_eventsFromNow h hk hw hrun
  calc (tr.events, t.havePrev, t.prevWb)
      = prependEvents tr.events t.eventsFromNow := by
        rw [ht.eventsFromNow_of_ended hend, prependEvents, List.append_nil]
    _ = s.eventsFromNow := hevents.symm
    _ = groupEvents s.cfg.wbAbsorb (unpack s.sr) true s.havePrev s.prevWb :=
        h.eventsFromNow_of_loaded hf hslot hfirst

end Sys2Proof.Machine
end

section
/-! PROOFS. `41_char_index.md`: `IndexOf` as the search for the first match, and the cycles that the same
search takes in `SCAN`. -/

namespace Sys2Proof.Machine

/-! ### The first match -/

/-- The lowest index at which the code `n` stands is the ordinal `m` (`41_char_index.md` R132). -/
structure FirstMatch (cfg : Config) (n : Byte) (m : Nat) : Prop where
  /-- `m` is below the sentinel's index -/
  ordinal : m < cfg.nChars
  /-- the code stands at `m` -/
  reads : cfg.charRom.read m = some n
  /-- and at no lower index -/
  first : ∀ j, j < m → cfg.charRom.read j ≠ some n

/-- The code `n` stands at no ordinal (R133). -/
def AbsentCode (cfg : Config) (n : Byte) : Prop :=
  ∀ j, j < cfg.nChars → cfg.charRom.read j ≠ some n

/-- A code that stands at an ordinal has a first match. -/
theorem firstMatch_or_absent (cfg : Config) (n : Byte) :
    (∃ m, FirstMatch cfg n m) ∨ AbsentCode cfg n := by
  by_cases h : ∃ m, m < cfg.nChars ∧ cfg.charRom.read m = some n
  · obtain ⟨hlt, hread⟩ := Nat.find_spec h
    exact .inl ⟨Nat.find h, hlt, hread, fun j hj hr => Nat.find_min h hj ⟨hj.trans hlt, hr⟩⟩
  · exact .inr fun j hj hr => h ⟨j, hj, hr⟩

/-- The sentinel stands at no ordinal of aligned tables (R134). -/
theorem absentCode_sentinel {cfg : Config} (h : tableAligned cfg = true) :
    AbsentCode cfg cfg.sentinel := fun _ hj hr =>
  hj.ne ((aligned_sentinel_iff h hj.le).1 hr)

/-! ### The search of the functional layer -/

/-- At an ordinal with the code the search ends. -/
theorem indexFrom_of_match {cfg : Config} {n : Byte} {i : Nat} (h : tableAligned cfg = true)
    (hi : i < cfg.nChars) (hread : cfg.charRom.read i = some n) (fuel : Nat) :
    indexFrom cfg n (fuel + 1) i = .ok i := by
  have hsentinel : n ≠ cfg.sentinel := by
    rintro rfl
    exact absentCode_sentinel h i hi hread
  simp [indexFrom, hread, hsentinel]

/-- At an ordinal with another code the search goes on to the next entry. -/
theorem indexFrom_of_miss {cfg : Config} {n : Byte} {i : Nat} (h : tableAligned cfg = true)
    (hi : i < cfg.nChars) (hmiss : cfg.charRom.read i ≠ some n) (fuel : Nat) :
    indexFrom cfg n (fuel + 1) i = indexFrom cfg n fuel (i + 1) := by
  obtain ⟨c, hread⟩ := aligned_charRom_reads h hi.le
  have hsentinel : c ≠ cfg.sentinel := by
    rintro rfl
    exact absentCode_sentinel h i hi hread
  have hn : c ≠ n := by
    rintro rfl
    exact hmiss hread
  simp [indexFrom, hread, hsentinel, hn]

/-- The search from an entry at or before the first match ends there. -/
theorem indexFrom_of_firstMatch {cfg : Config} {n : Byte} {m : Nat} (h : tableAligned cfg = true)
    (hm : FirstMatch cfg n m) (k i fuel : Nat) (hi : i + k = m) :
    indexFrom cfg n (k + fuel + 1) i = .ok m := by
  induction k generalizing i with
  | zero =>
    obtain rfl : i = m := hi
    exact indexFrom_of_match h hm.ordinal hm.reads _
  | succ k ih =>
    have hlt : i < m := by omega
    rw [indexFrom_of_miss h (hlt.trans hm.ordinal) (hm.first i hlt), Nat.add_right_comm k 1 fuel]
    exact ih (i + 1) (by omega)

/-- `IndexOf` gives the first match of the normalised code. -/
theorem indexOf_of_firstMatch {cfg : Config} {c : Byte} {m : Nat} (h : tableAligned cfg = true)
    (hm : FirstMatch cfg (normalize c) m) : indexOf cfg c = .ok m := by
  have hfuel : cfg.nChars + 1 = m + (cfg.nChars - m) + 1 := by
    have := hm.ordinal
    omega
  rw [indexOf, hfuel]
  exact indexFrom_of_firstMatch h hm m 0 _ (Nat.zero_add m)

/-- `IndexOf` answers an ordinal exactly when it is the first match. -/
theorem indexOf_eq_ok_iff {cfg : Config} {c : Byte} {m : Nat} (h : tableAligned cfg = true) :
    indexOf cfg c = .ok m ↔ FirstMatch cfg (normalize c) m := by
  refine ⟨fun hok => ?_, indexOf_of_firstMatch h⟩
  obtain ⟨l, hl⟩ | habsent := firstMatch_or_absent cfg (normalize c)
  · obtain rfl : l = m := Except.ok.inj ((indexOf_of_firstMatch h hl).symm.trans hok)
    exact hl
  · cases (indexOf_of_absent h habsent).symm.trans hok

/-- `IndexOf` fails, with the normalised code, exactly when that code stands at no ordinal. -/
theorem indexOf_eq_unknown_iff {cfg : Config} {c : Byte} (h : tableAligned cfg = true) :
    indexOf cfg c = .error (.unknownCharacter (normalize c) none) ↔ AbsentCode cfg (normalize c) := by
  refine ⟨fun herr => ?_, indexOf_of_absent h⟩
  obtain ⟨m, hm⟩ | habsent := firstMatch_or_absent cfg (normalize c)
  · cases (indexOf_of_firstMatch h hm).symm.trans herr
  · exact habsent

/-- A character is unknown exactly when its normalised code stands at no ordinal. -/
theorem known_eq_false_iff {cfg : Config} {c : Byte} (h : tableAligned cfg = true) :
    known cfg c = false ↔ AbsentCode cfg (normalize c) := by
  rw [← indexOf_eq_unknown_iff h]
  obtain ⟨m, hm⟩ | habsent := firstMatch_or_absent cfg (normalize c)
  · simp [known, indexOf_of_firstMatch h hm]
  · simp [known, indexOf_of_absent h habsent]

/-- Settles O11: the search passes every ordinal before the first match and ends at the first match. -/
theorem indexOfGivesTheFirstMatch : Obligations.IndexOfGivesTheFirstMatch := by
  intro cfg c i h
  rw [indexOf_eq_ok_iff h]
  exact ⟨fun ⟨hi, hread, hfirst⟩ => ⟨hi, hread, hfirst⟩,
    fun ⟨hi, hread, hfirst⟩ => ⟨hi, hread, hfirst⟩⟩

/-- Settles O12: a search without a match ends at the sentinel, and the sentinel itself is never a match. -/
theorem indexOfFailsForAbsentCharacters : Obligations.IndexOfFailsForAbsentCharacters := by
  intro cfg c h
  refine ⟨indexOf_eq_unknown_iff h, fun hc => (indexOf_eq_unknown_iff h).2 ?_⟩
  rw [hc]
  exact absentCode_sentinel h

/-! ### One cycle of the search -/

/-- A cycle without reset and ABORT, given what its state action answers. -/
theorem step_of_action {s t : State} (h : Inv s) (hk : keepsMessage s.pins = true)
    (ht : fsmAction s.pins.tick s (beforeAction s s.pins) = .next t) :
    step s = .next (advance s s.pins (regWrite s s.pins t)) := by
  rw [step_eq_cycle, ← edge_of_keepsMessage hk]
  exact clock_of_action h.cfgSupported ((keepsMessage_iff s.pins).1 hk).1 ht

/-- A `SCAN` cycle without reset and ABORT, given what the search answers. -/
theorem step_of_scanAction {s t : State} (h : Inv s) (hf : s.fsm = .scan)
    (hk : keepsMessage s.pins = true) (ht : scanAction s (beforeAction s s.pins) = .next t) :
    step s = .next (advance s s.pins (regWrite s s.pins t)) :=
  step_of_action h hk (by rw [fsmAction, hf]; exact ht)

/-- A search runs under aligned tables only (`10_state.md` R37, R47 (i)). -/
theorem Inv.aligned_of_scan {s : State} (h : Inv s) (hf : s.fsm = .scan) :
    tableAligned s.cfg = true :=
  h.aligned (h.fatal_false (.inl (by simp [hf])))

/-- The cycle at an ordinal with another code goes on to the next entry (`45_cycle_fsm.md` R234). -/
theorem step_of_scan_miss {s : State} (h : Inv s) (hf : s.fsm = .scan)
    (hk : keepsMessage s.pins = true) (hlt : s.idx.toNat < s.cfg.nChars)
    (hmiss : s.cfg.charRom.read s.idx.toNat ≠ some s.curChar) :
    step s = .next (advance s s.pins
      (regWrite s s.pins { beforeAction s s.pins with idx := s.idx + 1#6 })) := by
  have ha := h.aligned_of_scan hf
  obtain ⟨c, hread⟩ := aligned_charRom_reads ha hlt.le
  refine step_of_scanAction h hf hk
    ((scanAction_next_iff s _ _).2 ⟨c, hread, .inr (.inr ⟨?_, ?_, rfl⟩)⟩)
  · rintro rfl
    exact absentCode_sentinel ha _ hlt hread
  · rintro rfl
    exact hmiss hread

/-- The cycle at an ordinal with the code loads the record (R234). -/
theorem step_of_scan_match {s : State} {w : Word16} (h : Inv s) (hf : s.fsm = .scan)
    (hk : keepsMessage s.pins = true) (hlt : s.idx.toNat < s.cfg.nChars)
    (hmatch : s.cfg.charRom.read s.idx.toNat = some s.curChar)
    (hw : recWord s.cfg s.idx.toNat = some w) :
    step s = .next (advance s s.pins
      (regWrite s s.pins (loadRecord w (setLookup s true (beforeAction s s.pins))))) := by
  have hsentinel : s.curChar ≠ s.cfg.sentinel := fun hc =>
    absentCode_sentinel (h.aligned_of_scan hf) _ hlt (hc ▸ hmatch)
  exact step_of_scanAction h hf hk
    ((scanAction_next_iff s _ _).2 ⟨_, hmatch, .inr (.inl ⟨hsentinel, rfl, w, hw, rfl⟩)⟩)

/-- The cycle at the sentinel takes the exception UnknownCharacter (R234). -/
theorem step_of_scan_sentinel {s : State} (h : Inv s) (hf : s.fsm = .scan)
    (hk : keepsMessage s.pins = true)
    (hread : s.cfg.charRom.read s.idx.toNat = some s.cfg.sentinel) :
    step s = .next (advance s s.pins
      (regWrite s s.pins (takeUnknownCharacter s (beforeAction s s.pins)))) :=
  step_of_scanAction h hf hk ((scanAction_next_iff s _ _).2 ⟨_, hread, .inl ⟨rfl, rfl⟩⟩)

/-! ### Runs of a search -/

/-- A run and one cycle after it. -/
theorem runSteps_succ_of_step {n : Nat} {s u t : State} (hrun : runSteps n s = some u)
    (hst : step u = .next t) : runSteps (n + 1) s = some t := by
  induction n generalizing s with
  | zero =>
    obtain rfl : s = u := Option.some.inj hrun
    exact runSteps_of_step hst 0
  | succ n ih =>
    cases hs : step s with
    | next v =>
      rw [runSteps_of_step hs] at hrun ⊢
      exact ih hrun
    | fault r | refused r => simp [runSteps, hs] at hrun

/-- A run uses up the inputs of its cycles. -/
theorem pinsAt_of_runSteps {n : Nat} {s u : State} (hrun : runSteps n s = some u) (k : Nat) :
    u.pinsAt k = s.pinsAt (n + k) := by
  induction n generalizing s with
  | zero =>
    obtain rfl : s = u := Option.some.inj hrun
    rw [Nat.zero_add]
  | succ n ih =>
    cases hs : step s with
    | next v =>
      rw [ih (runSteps_of_step hs n ▸ hrun), pinsAt_of_step hs, Nat.add_right_comm]
    | fault r | refused r => simp [runSteps, hs] at hrun

/-- After `k` cycles the search that started in `s` stands in `u` before entry `k`, and what the
message has so far is as it was. -/
structure SearchReaches (s : State) (k : Nat) (u : State) : Prop where
  run : runSteps k s = some u
  inv : Inv u
  fsm : u.fsm = .scan
  idx : u.idx.toNat = k
  cfg : u.cfg = s.cfg
  curChar : u.curChar = s.curChar
  curLast : u.curLast = s.curLast
  havePrev : u.havePrev = s.havePrev
  prevWb : u.prevWb = s.prevWb

/-- The inputs of the cycle that the search has reached. -/
theorem SearchReaches.pins {s u : State} {k : Nat} (h : SearchReaches s k u) :
    u.pins = s.pinsAt k :=
  pinsAt_of_runSteps h.run 0

/-- A search that is at an ordinal with another code reaches the next entry in one cycle. -/
theorem SearchReaches.next {s u : State} {k : Nat} (h : SearchReaches s k u)
    (hk : keepsMessage (s.pinsAt k) = true) (hlt : k < s.cfg.nChars)
    (hmiss : s.cfg.charRom.read k ≠ some s.curChar) : ∃ t, SearchReaches s (k + 1) t := by
  have hst := step_of_scan_miss h.inv h.fsm (h.pins ▸ hk) (by rwa [h.idx, h.cfg])
    (by rwa [h.idx, h.cfg, h.curChar])
  have hbound := supported_bound h.inv.cfgSupported
  have hidx : (u.idx + 1#6).toNat = k + 1 := by
    have hu := h.idx
    rw [h.cfg] at hbound
    bv_omega
  exact ⟨_, runSteps_succ_of_step h.run hst, stepKeepsTheInvariants _ _ h.inv hst,
    by simpa using h.fsm, by simpa using hidx, by simpa using h.cfg, by simpa using h.curChar,
    by simpa using h.curLast, by simpa using h.havePrev, by simpa using h.prevWb⟩

/-- A search from index 0 reaches every entry before which no ordinal has the code, one entry per cycle
(`41_char_index.md` R142). -/
theorem exists_searchReaches {s : State} (h : Inv s) (hf : s.fsm = .scan) (hidx : s.idx = 0#6)
    (k : Nat) (hk : ∀ j, j < k → keepsMessage (s.pinsAt j) = true) (hle : k ≤ s.cfg.nChars)
    (hmiss : ∀ j, j < k → s.cfg.charRom.read j ≠ some s.curChar) : ∃ u, SearchReaches s k u := by
  induction k with
  | zero => exact ⟨s, rfl, h, hf, by simp [hidx], rfl, rfl, rfl, rfl, rfl⟩
  | succ k ih =>
    obtain ⟨u, hu⟩ := ih (fun j hj => hk j (by omega)) (by omega) (fun j hj => hmiss j (by omega))
    exact hu.next (hk k (by omega)) (by omega) (hmiss k (by omega))

/-- A search that is at the first match loads its record in one cycle. -/
theorem SearchReaches.found {s u : State} {n : Nat} (h : SearchReaches s n u)
    (hk : keepsMessage (s.pinsAt n) = true) (hm : FirstMatch s.cfg s.curChar n) :
    ∃ t w, runSteps (n + 1) s = some t ∧ recWord s.cfg n = some w ∧ t.fsm = .unpack ∧ t.sr = w
      ∧ t.slot = 0#4 ∧ t.firstSym = true ∧ t.lkChar = s.curChar ∧ t.lkFound = true
      ∧ t.lkIdx.toNat = n ∧ t.havePrev = s.havePrev ∧ t.prevWb = s.prevWb
      ∧ t.curLast = s.curLast := by
  obtain ⟨w, hw⟩ := aligned_recWord (h.inv.aligned_of_scan h.fsm) (h.cfg ▸ hm.ordinal)
  rw [h.cfg] at hw
  have hst := step_of_scan_match (w := w) h.inv h.fsm (h.pins ▸ hk)
    (by rw [h.idx, h.cfg]; exact hm.ordinal) (by rw [h.idx, h.cfg, h.curChar]; exact hm.reads)
    (by rwa [h.idx, h.cfg])
  refine ⟨_, w, runSteps_succ_of_step h.run hst, hw, ?_⟩
  simp [h.curChar, h.idx, h.havePrev, h.prevWb, h.curLast]

/-- A search that is at the sentinel reports UnknownCharacter in one cycle. -/
theorem SearchReaches.unknown {s u : State} (h : SearchReaches s s.cfg.nChars u)
    (hk : keepsMessage (s.pinsAt s.cfg.nChars) = true) :
    ∃ t, runSteps (s.cfg.nChars + 1) s = some t ∧ t.fsm = (if s.curLast then .done else .idle)
      ∧ t.unk = true ∧ t.lkChar = s.curChar ∧ t.lkFound = false ∧ t.lkIdx.toNat = s.cfg.nChars
      ∧ t.havePrev = s.havePrev ∧ t.prevWb = s.prevWb := by
  have hku : keepsMessage u.pins = true := h.pins ▸ hk
  have hread : u.cfg.charRom.read u.idx.toNat = some u.cfg.sentinel :=
    (aligned_sentinel_iff (h.inv.aligned_of_scan h.fsm) h.inv.idxBound).2 (by rw [h.idx, h.cfg])
  have hst := step_of_scan_sentinel h.inv h.fsm hku hread
  have hunk := (step_unk_iff hst ((keepsMessage_iff u.pins).1 hku).1).2 (.inl ⟨h.fsm, hread⟩)
  refine ⟨_, runSteps_succ_of_step h.run hst, ?_, hunk, ?_⟩
  · simp [h.curLast]
  · simp [h.curChar, h.idx, h.havePrev, h.prevWb]

/-- Settles O55: the search reaches one entry per cycle up to the first match or the sentinel, where one
more cycle ends it. -/
theorem searchTakesItsCycles : Obligations.SearchTakesItsCycles := by
  refine ⟨fun s n h hf hidx hnorm => ⟨fun hok hk => ?_, fun hunknown hk => ?_⟩, rfl⟩
  · have hm : FirstMatch s.cfg s.curChar n := by
      simpa [hnorm] using (indexOf_eq_ok_iff (h.aligned_of_scan hf)).1 hok
    have hreach (k : Nat) (hkn : k < n + 1) : ∃ u, SearchReaches s k u :=
      exists_searchReaches h hf hidx k (fun j hj => hk j (by omega))
        (by have := hm.ordinal; omega) (fun j hj => hm.first j (by omega))
    obtain ⟨u, hu⟩ := hreach n (Nat.lt_succ_self n)
    exact ⟨fun k hkn => (hreach k hkn).imp fun _ hv => ⟨hv.run, hv.fsm⟩,
      hu.found (hk n (Nat.lt_succ_self n)) hm⟩
  · have habsent : AbsentCode s.cfg s.curChar := by
      simpa [hnorm] using (known_eq_false_iff (h.aligned_of_scan hf)).1 hunknown
    have hreach (k : Nat) (hkn : k < s.cfg.nChars + 1) : ∃ u, SearchReaches s k u :=
      exists_searchReaches h hf hidx k (fun j hj => hk j (by omega)) (by omega)
        (fun j hj => habsent j (by omega))
    obtain ⟨u, hu⟩ := hreach s.cfg.nChars (Nat.lt_succ_self _)
    exact ⟨fun k hkn => (hreach k hkn).imp fun _ hv => ⟨hv.run, hv.fsm⟩,
      hu.unknown (hk s.cfg.nChars (Nat.lt_succ_self _))⟩

end Sys2Proof.Machine
end

section
/-! PROOFS. `42_encoder.md`: `EncodeChar` fails on exactly the unknown characters, and `EncodeText` is
`EncodeChar` of one character after the other. -/

namespace Sys2Proof.Machine

/-! ### One character -/

/-- `EncodeChar` unpacks the record that `Lookup` gives (R150). -/
theorem encodeChar_of_lookup {cfg : Config} {c : Byte} {w : Word16} (h : lookup cfg c = .ok w) :
    encodeChar cfg c = .ok (unpack w) := by
  simp [encodeChar, h]

/-- A known character of aligned tables has a record, so it has a group. -/
theorem exists_encodeChar_of_known {cfg : Config} {c : Byte} (h : tableAligned cfg = true)
    (hc : known cfg c = true) : ∃ g, encodeChar cfg c = .ok g := by
  obtain ⟨m, hm⟩ | habsent := firstMatch_or_absent cfg (normalize c)
  · obtain ⟨w, hw⟩ := aligned_recWord h hm.ordinal
    have hlookup : lookup cfg c = .ok w := by simp [lookup, indexOf_of_firstMatch h hm, hw]
    exact ⟨unpack w, encodeChar_of_lookup hlookup⟩
  · cases hc.symm.trans ((known_eq_false_iff h).2 habsent)

/-- An unknown character of aligned tables is UnknownCharacter with its normalised code. -/
theorem encodeChar_of_unknown {cfg : Config} {c : Byte} (h : tableAligned cfg = true)
    (hc : known cfg c = false) :
    encodeChar cfg c = .error (.unknownCharacter (normalize c) none) := by
  simp [encodeChar, lookup, indexOf_of_absent h ((known_eq_false_iff h).1 hc)]

/-- A row of `46_char_table.md` is encoded to the symbols of its record word. -/
theorem encodeChar_characterTable : ∀ r ∈ Claims.characterTable,
    encodeChar specConfig r.2.1 = .ok (unpack r.2.2.2.2) :=
  fun r hr => encodeChar_of_lookup (search_characterTable r hr).2

/-! ### The next character of a text -/

/-- A group goes before those of the rest of the text. -/
theorem encodeFrom_cons_of_ok {cfg : Config} {c : Byte} {g : Group} (h : encodeChar cfg c = .ok g)
    (mode : Mode) (rest : List Byte) (j : Nat) :
    encodeFrom cfg mode (c :: rest) j = (encodeFrom cfg mode rest (j + 1)).map (g :: ·) := by
  rw [encodeFrom, h]
  cases encodeFrom cfg mode rest (j + 1) <;> rfl

/-- An unknown character ends a strict text, with its position (R155). -/
theorem encodeFrom_cons_strict_of_unknown {cfg : Config} {c : Byte} (h : tableAligned cfg = true)
    (hc : known cfg c = false) (rest : List Byte) (j : Nat) :
    encodeFrom cfg .strict (c :: rest) j = .error (.unknownCharacter (normalize c) (some j)) := by
  simp [encodeFrom, encodeChar_of_unknown h hc]

/-- An unknown character of a lenient text contributes no group (R156). -/
theorem encodeFrom_cons_lenient_of_unknown {cfg : Config} {c : Byte} (h : tableAligned cfg = true)
    (hc : known cfg c = false) (rest : List Byte) (j : Nat) :
    encodeFrom cfg .lenient (c :: rest) j = encodeFrom cfg .lenient rest (j + 1) := by
  simp [encodeFrom, encodeChar_of_unknown h hc]

/-! ### The groups and events of a text -/

/-- Where the first characters of a text have groups, these go before what the rest of the text gives,
in either mode. -/
theorem encodeFrom_append_of_groups {cfg : Config} {pre : List Byte} {gs : List Group}
    (h : gs.map Except.ok = pre.map (encodeChar cfg)) (mode : Mode) (rest : List Byte) (j : Nat) :
    encodeFrom cfg mode (pre ++ rest) j
      = (encodeFrom cfg mode rest (j + pre.length)).map (gs ++ ·) := by
  induction pre generalizing gs j with
  | nil =>
    obtain rfl : gs = [] := List.map_eq_nil_iff.1 h
    simp only [List.nil_append, List.length_nil, Nat.add_zero]
    cases encodeFrom cfg mode rest j <;> rfl
  | cons c pre ih =>
    obtain ⟨g, gs, rfl, hg, hgs⟩ := List.map_eq_cons_iff.1 h
    rw [List.cons_append, encodeFrom_cons_of_ok hg.symm, ih hgs, List.length_cons,
      Nat.add_right_comm j 1, ← Nat.add_assoc]
    cases encodeFrom cfg mode rest (j + pre.length + 1) <;> rfl

/-- A text whose characters all have groups is encoded to these, in either mode. -/
theorem encodeText_of_groups {cfg : Config} {text : List Byte} {gs : List Group}
    (h : gs.map Except.ok = text.map (encodeChar cfg)) (mode : Mode) :
    encodeText cfg text mode = .ok gs := by
  simpa [encodeText, encodeFrom, Except.map] using encodeFrom_append_of_groups h mode [] 0

/-- Known characters of aligned tables have groups. -/
theorem exists_groups_of_known {cfg : Config} (h : tableAligned cfg = true) {text : List Byte}
    (hknown : ∀ c ∈ text, known cfg c = true) :
    ∃ gs : List Group, gs.map Except.ok = text.map (encodeChar cfg) := by
  induction text with
  | nil => exact ⟨[], rfl⟩
  | cons c text ih =>
    obtain ⟨hc, htext⟩ := List.forall_mem_cons.1 hknown
    obtain ⟨g, hg⟩ := exists_encodeChar_of_known h hc
    obtain ⟨gs, hgs⟩ := ih htext
    exact ⟨g :: gs, by simp [hg, hgs]⟩

/-- A lenient text is its known characters; positions do not count (R156). -/
theorem encodeFrom_lenient_eq_filter {cfg : Config} (h : tableAligned cfg = true)
    (text : List Byte) (j k : Nat) :
    encodeFrom cfg .lenient text j = encodeFrom cfg .lenient (text.filter (known cfg)) k := by
  induction text generalizing j k with
  | nil => rfl
  | cons c text ih =>
    cases hc : known cfg c with
    | true =>
      obtain ⟨g, hg⟩ := exists_encodeChar_of_known h hc
      rw [List.filter_cons_of_pos hc, encodeFrom_cons_of_ok hg, encodeFrom_cons_of_ok hg,
        ih (j + 1) (k + 1)]
    | false =>
      rw [List.filter_cons_of_neg (by simp [hc]), encodeFrom_cons_lenient_of_unknown h hc]
      exact ih (j + 1) k

/-- The events of a text are those of its groups (`43_timing.md` R179). -/
theorem encodeToEvents_of_groups {cfg : Config} {text : List Byte} {mode : Mode} {gs : List Group}
    (h : encodeText cfg text mode = .ok gs) :
    encodeToEvents cfg text mode = .ok (toEvents cfg.wbAbsorb gs) := by
  simp [encodeToEvents, h]

/-- The groups of SOS are the record words of its letters unpacked. -/
theorem encodeText_sos (mode : Mode) :
    encodeText specConfig [0x53#8, 0x4F#8, 0x53#8] mode
      = .ok [unpack 0x5400#16, unpack 0xA800#16, unpack 0x5400#16] := by
  have hS := encodeChar_characterTable (.charS false, 0x53#8, 0x53#8, 28, 0x5400#16) (by decide)
  have hO := encodeChar_characterTable (.charO false, 0x4F#8, 0x4F#8, 24, 0xA800#16) (by decide)
  exact encodeText_of_groups (by simp [hS, hO]) mode

/-! ### The obligations -/

/-- Settles O15: known characters have groups, which go before what the rest of the text gives: nothing,
or in strict mode the exception. A lenient text is its known characters. -/
theorem encodeTextStrictAndLenient : Obligations.EncodeTextStrictAndLenient := by
  intro cfg text h
  refine ⟨fun hknown => ?_, fun pre c post htext hpre hc => ?_, ?_⟩
  · obtain ⟨gs, hgs⟩ := exists_groups_of_known h hknown
    exact ⟨gs, encodeText_of_groups hgs .strict, hgs⟩
  · obtain ⟨gs, hgs⟩ := exists_groups_of_known h hpre
    rw [htext, encodeText, encodeFrom_append_of_groups hgs, encodeFrom_cons_strict_of_unknown h hc,
      Nat.zero_add]
    rfl
  · obtain ⟨gs, hgs⟩ := exists_groups_of_known h (text := text.filter (known cfg))
      fun c hc => (List.mem_filter.1 hc).2
    refine ⟨gs, ?_, hgs⟩
    rw [encodeText, encodeFrom_lenient_eq_filter h text 0 0]
    exact encodeText_of_groups hgs .lenient

/-- Settles O14: each printed encoding is the record word of its row unpacked, and the totals are those of
the events of the three groups of SOS. -/
theorem sourceExamplesEncode : Obligations.SourceExamplesEncode := by
  refine ⟨?A, ?zero, ?period, ?question, ?space, ?sos⟩
  case A => exact encodeChar_characterTable (.charA false, 0x41#8, 0x41#8, 10, 0x6000#16) (by decide)
  case zero => exact encodeChar_characterTable (.char0, 0x30#8, 0x30#8, 0, 0xAA80#16) (by decide)
  case period =>
    exact encodeChar_characterTable (.charPeriod, 0x2E#8, 0x2E#8, 36, 0x6660#16) (by decide)
  case question =>
    exact encodeChar_characterTable (.charQuestion, 0x3F#8, 0x3F#8, 38, 0x5A50#16) (by decide)
  case space =>
    exact encodeChar_characterTable (.charSpace, 0x20#8, 0x20#8, 39, 0xC000#16) (by decide)
  case sos => exact ⟨_, encodeToEvents_of_groups (encodeText_sos .strict), by decide⟩

end Sys2Proof.Machine
end

section
/-! PROOFS. `43_timing.md`: `ToEvents` as the gap rule over tagged symbols and the number of its events,
the symbols at a counting or expired event, the keyed output, and an event that waits for its ticks. -/

namespace Sys2Proof.Machine

open Claims

/-! ### The gap rule -/

/-- The symbols of the groups, the first of which has the number `i`. -/
def taggedFrom (i : Nat) (groups : List Group) : List (Nat × Symbol) :=
  (groups.zipIdx i).flatMap fun g => g.1.map fun f => (g.2, f)

/-- The statement's tagged symbols are those of the groups numbered from 0. -/
theorem taggedFrom_zero (groups : List Group) : taggedFrom 0 groups = tagged groups := rfl

/-- The first group's symbols carry its number. -/
theorem taggedFrom_cons (i : Nat) (g : Group) (rest : List Group) :
    taggedFrom i (g :: rest) = g.map (fun f => (i, f)) ++ taggedFrom (i + 1) rest := by
  simp [taggedFrom]

/-- Without their numbers the tagged symbols are the flattened sequence (`42_encoder.md` R151). -/
theorem taggedFrom_symbols (i : Nat) (groups : List Group) :
    (taggedFrom i groups).map Prod.snd = flattenGroups groups := by
  induction groups generalizing i with
  | nil => rfl
  | cons g rest ih => simp [taggedFrom_cons, ih, flattenGroups, Function.comp_def]

/-- The event of R170 is `SymEvent` where that is defined (R171). -/
theorem eventOf_eq (f : Symbol) : eventOf f = (symEvent f).toList := by
  cases f <;> rfl

/-- Before a symbol of group `i`, the flags of `ToEvents` tell what the gap rule reads from the symbol
`prev` before it: whether there is one, whether it is a WORD_BREAK, and whether its group is another. -/
structure GapContext (i : Nat) (prev : Option (Nat × Symbol)) (first havePrev prevWb : Bool) : Prop where
  some_iff : havePrev = prev.isSome
  isWordBreak : ∀ a ∈ prev, prevWb = decide (a.2 = .wordBreak)
  otherGroup : ∀ a ∈ prev, first = decide (a.1 ≠ i)
  bound : ∀ a ∈ prev, a.1 ≤ i

/-- Before the first symbol of all. -/
theorem gapContext_start (i : Nat) : GapContext i none true false false :=
  ⟨rfl, nofun, nofun, nofun⟩

/-- After a symbol of the same group. -/
theorem gapContext_symbol (i : Nat) (f : Symbol) :
    GapContext i (some (i, f)) false true (decide (f = .wordBreak)) := by
  constructor <;> simp

/-- At the end of a group, empty or not, the next symbol is the first of a later one. -/
theorem GapContext.nextGroup {i : Nat} {prev : Option (Nat × Symbol)} {first havePrev prevWb : Bool}
    (h : GapContext i prev first havePrev prevWb) : GapContext (i + 1) prev true havePrev prevWb where
  some_iff := h.some_iff
  isWordBreak := h.isWordBreak
  otherGroup a ha := (decide_eq_true (by have := h.bound a ha; omega)).symm
  bound a ha := Nat.le_succ_of_le (h.bound a ha)

/-- A gap is due after a symbol unless `WB_ABSORB` takes it away next to a WORD_BREAK (R172, R175). -/
theorem needGap_iff (wb havePrev prevWb : Bool) (f : Symbol) : needGap wb havePrev prevWb f = true ↔
    havePrev = true ∧ ¬ (wb = true ∧ (prevWb = true ∨ f = .wordBreak)) := by
  simp only [needGap, Bool.and_eq_true, Bool.not_eq_true', ← Bool.not_eq_true, Bool.or_eq_true,
    decide_eq_true_eq]

/-- One symbol by the gap rule: the gap that `ToEvents` gives it, if any, and its own event. -/
theorem GapContext.gapRule_cons {i : Nat} {prev : Option (Nat × Symbol)} {first havePrev prevWb : Bool}
    (h : GapContext i prev first havePrev prevWb) (wb : Bool) (f : Symbol) (rest : List (Nat × Symbol)) :
    gapRule wb prev ((i, f) :: rest) =
      (if needGap wb havePrev prevWb f then [gapEvent first] else [])
        ++ (symEvent f).toList ++ gapRule wb (some (i, f)) rest := by
  rw [← eventOf_eq]
  cases prev with
  | none =>
    obtain rfl : havePrev = false := h.some_iff
    simp [gapRule, needGap]
  | some a =>
    obtain rfl : havePrev = true := h.some_iff
    obtain rfl := h.isWordBreak a rfl
    obtain rfl := h.otherGroup a rfl
    have hneed : needGap wb true (decide (a.2 = .wordBreak)) f = true ↔
        ¬ (wb = true ∧ (a.2 = .wordBreak ∨ f = .wordBreak)) := by
      simp only [needGap_iff, decide_eq_true_eq, true_and]
    by_cases habsorb : wb = true ∧ (a.2 = .wordBreak ∨ f = .wordBreak)
    · rw [gapRule, if_pos habsorb, if_neg fun hn => hneed.1 hn habsorb]
    · rw [gapRule, if_neg habsorb, if_pos (hneed.2 habsorb)]
      by_cases hgroup : a.1 = i
      · simp [gapEvent, gapUnits, hgroup]
      · simp [gapEvent, gapUnits, hgroup]

/-- The symbols of one group by the gap rule are its events, and the symbol after them is again told
by the flags. -/
theorem GapContext.gapRule_group {i : Nat} {prev : Option (Nat × Symbol)} {first havePrev prevWb : Bool}
    (h : GapContext i prev first havePrev prevWb) (wb : Bool) (g : Group) :
    ∃ last, GapContext (i + 1) last true (groupEvents wb g first havePrev prevWb).2.1
        (groupEvents wb g first havePrev prevWb).2.2
      ∧ ∀ later, gapRule wb prev (g.map (fun f => (i, f)) ++ later)
          = (groupEvents wb g first havePrev prevWb).1 ++ gapRule wb last later := by
  induction g generalizing prev first havePrev prevWb with
  | nil => exact ⟨prev, h.nextGroup, fun _ => rfl⟩
  | cons f rest ih =>
    obtain ⟨last, hlast, hrest⟩ := ih (gapContext_symbol i f)
    refine ⟨last, hlast, fun later => ?_⟩
    rw [List.map_cons, List.cons_append, h.gapRule_cons, hrest, groupEvents_cons]
    simp [prependEvents]

/-- The events of the groups from any point on follow the gap rule. -/
theorem GapContext.eventsFrom_eq {i : Nat} {prev : Option (Nat × Symbol)} {havePrev prevWb : Bool}
    (h : GapContext i prev true havePrev prevWb) (wb : Bool) (groups : List Group) :
    eventsFrom wb groups havePrev prevWb = gapRule wb prev (taggedFrom i groups) := by
  induction groups generalizing i prev havePrev prevWb with
  | nil => cases prev <;> rfl
  | cons g rest ih =>
    obtain ⟨last, hlast, hgroup⟩ := h.gapRule_group wb g
    rw [taggedFrom_cons, hgroup, ← ih hlast]
    rfl

/-- `ToEvents` follows the gap rule from the first symbol on. -/
theorem toEvents_eq_gapRule (wb : Bool) (groups : List Group) :
    toEvents wb groups = gapRule wb none (tagged groups) :=
  (gapContext_start 0).eventsFrom_eq wb groups

/-- Settles O16, by the flags that `ToEvents` carries from symbol to symbol and from group to group. -/
theorem toEventsFollowsTheGapRule : Obligations.ToEventsFollowsTheGapRule :=
  fun wb groups _ => toEvents_eq_gapRule wb groups

/-! ### The number and the ends of the literal events -/

/-- A symbol with an event gives just that one. -/
theorem exists_eventOf {f : Symbol} (h : f ≠ .terminator) :
    ∃ e, symEvent f = some e ∧ eventOf f = [e] := by
  obtain ⟨e, he⟩ := symEvent_isSome h
  exact ⟨e, he, by rw [eventOf_eq, he]; rfl⟩

/-- Without absorption every symbol after another one has its gap first (R174). -/
theorem gapRule_literal_cons (a b : Nat × Symbol) (rest : List (Nat × Symbol)) :
    gapRule false (some a) (b :: rest) =
      ⟨false, if a.1 = b.1 then 1#3 else 3#3⟩ :: (eventOf b.2 ++ gapRule false (some b) rest) := by
  simp [gapRule]

/-- After a symbol each further one adds two events. -/
theorem gapRule_literal_length (a : Nat × Symbol) (l : List (Nat × Symbol))
    (h : ∀ b ∈ l, b.2 ≠ .terminator) : (gapRule false (some a) l).length = 2 * l.length := by
  induction l generalizing a with
  | nil => rfl
  | cons b rest ih =>
    obtain ⟨e, -, he⟩ := exists_eventOf (h b List.mem_cons_self)
    rw [gapRule_literal_cons, he]
    simp [ih b fun c hc => h c (List.mem_cons_of_mem b hc)]
    omega

/-- After a symbol's event the events end with that of the last symbol. -/
theorem gapRule_literal_getLast? (b : Nat × Symbol) (rest : List (Nat × Symbol))
    (h : ∀ c ∈ b :: rest, c.2 ≠ .terminator) :
    (eventOf b.2 ++ gapRule false (some b) rest).getLast?
      = (b :: rest).getLast?.bind fun c => symEvent c.2 := by
  induction rest generalizing b with
  | nil =>
    obtain ⟨e, hsym, he⟩ := exists_eventOf (h b List.mem_cons_self)
    simp [gapRule, he, hsym]
  | cons c rest ih =>
    have hrest := ih c fun d hd => h d (List.mem_cons_of_mem b hd)
    obtain ⟨e, -, he⟩ := exists_eventOf (h c (by simp))
    rw [gapRule_literal_cons, List.getLast?_cons_cons, ← hrest, he]
    simp [List.getLast?_append, List.getLast?_cons]

/-- Settles O17, from the gap rule: the first symbol gives one event and each later one two. -/
theorem literalEventsCountAndEnds : Obligations.LiteralEventsCountAndEnds := by
  intro groups hterm hne
  have hsymbols : flattenGroups groups = (tagged groups).map Prod.snd :=
    (taggedFrom_symbols 0 groups).symm
  have hmem : ∀ c ∈ tagged groups, c.2 ≠ .terminator := by
    rintro c hc ht
    have hflat : c.2 ∈ flattenGroups groups := hsymbols ▸ List.mem_map_of_mem hc
    obtain ⟨g, hg, hf⟩ := List.mem_flatten.1 hflat
    exact hterm g hg (ht ▸ hf)
  rw [toEvents_eq_gapRule]
  rw [hsymbols] at hne ⊢
  cases htag : tagged groups with
  | nil => simp [htag] at hne
  | cons b rest =>
    rw [htag] at hmem
    obtain ⟨e, hsym, he⟩ := exists_eventOf (hmem b List.mem_cons_self)
    refine ⟨?_, ?_, ?_⟩
    · have hrest := gapRule_literal_length b rest fun c hc => hmem c (List.mem_cons_of_mem b hc)
      simp [gapRule, he, hrest]
      omega
    · simp [gapRule, he, hsym]
    · rw [gapRule, gapRule_literal_getLast? b rest hmem, List.getLast?_map, Option.bind_map]
      rfl

/-! ### Symbols at an event -/

/-- The meaning of a row of the symbol table is the cycle with its code at the head of `sr`. -/
theorem exec_codeTable : ∀ r ∈ codeTable, ∀ s : State, exec r.1 s = cycle (s.placeSymbol r.2) := by
  simp only [codeTable, List.forall_mem_cons, List.not_mem_nil, false_implies, implies_true, and_true]
  exact ⟨fun _ => rfl, fun _ => rfl, fun _ => rfl, fun _ => rfl⟩

/-- An event that still counts only counts (`45_cycle_fsm.md` R236, R237). -/
theorem fsmAction_of_counting {s : State} (hf : s.fsm = .tGap ∨ s.fsm = .tSym) (hc : s.cnt ≠ 0#19)
    (tick : Bool) (t : State) : fsmAction tick s t = .next (countTick tick s t) := by
  obtain hf | hf := hf
  · simp [fsmAction, hf, gapAction, hc]
  · simp [fsmAction, hf, symAction, hc]

/-- A running counter does not wrap (`43_timing.md` R182). -/
theorem ticks_sub_one_toNat {c : Ticks} (h : c ≠ 0#19) : (c - 1#19).toNat = c.toNat - 1 := by
  bv_omega

/-- Counting as the statement writes it, by values. -/
theorem countTick_eq {s : State} (h : s.cnt ≠ 0#19) (tick : Bool) (t : State) : countTick tick s t =
    if tick then { t with cnt := BitVec.ofNat 19 (s.cnt.toNat - 1) } else t := by
  rw [countTick, ← ticks_sub_one_toNat h, BitVec.ofNat_toNat, BitVec.setWidth_eq]

/-- Settles O30: the row's meaning is a clock edge whose state action counts, whatever the symbol. -/
theorem runningEventCountsTicks : Obligations.RunningEventCountsTicks := by
  intro r hr s hs hrst hf hc
  have hcount := fsmAction_of_counting (s := s.placeSymbol r.2) hf hc s.pins.tick
    (beforeAction (s.placeSymbol r.2) s.pins)
  rw [countTick_eq (s := s.placeSymbol r.2) hc] at hcount
  exact (exec_codeTable r hr s).trans (clock_of_action hs hrst hcount)

/-- TERMINATOR has no event to load at the expiry of a gap (R171). -/
theorem fsmAction_of_expired_gap {s : State} (hf : s.fsm = .tGap) (hc : s.cnt = 0#19)
    (hhead : headSymbol s.sr = .terminator) (tick : Bool) (t : State) :
    fsmAction tick s t = .refused .symEventOfTerminator := by
  simp [fsmAction, hf, gapAction, hc, hhead, loadSymbol, symEvent]

/-- The expiry of a symbol's event shifts, whatever the symbol (`45_cycle_fsm.md` R237). -/
theorem fsmAction_of_expired_symbol {s : State} (hf : s.fsm = .tSym) (hc : s.cnt = 0#19) (tick : Bool)
    (t : State) : fsmAction tick s t = .next (finishSymbol s t) := by
  simp [fsmAction, hf, symAction, hc]

/-- The shift drops the code at the head and brings in a TERMINATOR (`40_record_codec.md` R122). -/
theorem setHead_shift (f : Symbol) (sr : Word16) :
    setHead f sr <<< 2 = sr.extractLsb' 0 14 ++ 0#2 := by
  apply BitVec.eq_of_getLsbD_eq
  intro i hi
  simp only [setHead, BitVec.getLsbD_shiftLeft, BitVec.getLsbD_append, BitVec.getLsbD_extractLsb']
  by_cases hlow : i < 2
  · simp [hlow]
  · simp [hlow, hi, show i - 2 < 14 by omega]

/-- The expiry of a symbol placed at the head. -/
theorem finishSymbol_placeSymbol (f : Symbol) (s t : State) : finishSymbol (s.placeSymbol f) t =
    { t with prevWb := decide (f = .wordBreak), sr := s.sr.extractLsb' 0 14 ++ 0#2,
             slot := s.slot + 1#4, firstSym := false, havePrev := true, fsm := .unpack } := by
  simp [finishSymbol, setHead_shift]

/-- A clock edge whose state action is refused is refused. -/
theorem clock_of_refused {s : State} {p : Inputs} {r : Refusal} (hs : supported s.cfg = true)
    (hr : p.rst = false) (h : fsmAction p.tick s (beforeAction s p) = .refused r) :
    clock s p = .refused r := by
  simp [clock, hs, hr, h]

/-- Settles O32: TERMINATOR's meaning is the clock edge with its code at the head of `sr`, where an
expired gap asks for its event and an expired symbol's event shifts it out. -/
theorem terminatorOutsideUnpack : Obligations.TerminatorOutsideUnpack := by
  intro s hs hrst hc
  refine ⟨fun hf => ?_, fun hf => ?_⟩
  · have hhead : headSymbol (s.placeSymbol .terminator).sr = .terminator := by simp
    exact clock_of_refused (s := s.placeSymbol .terminator) hs hrst
      (fsmAction_of_expired_gap (s := s.placeSymbol .terminator) hf hc hhead _ _)
  · have hshift := fsmAction_of_expired_symbol (s := s.placeSymbol .terminator) hf hc s.pins.tick
      (beforeAction (s.placeSymbol .terminator) s.pins)
    rw [finishSymbol_placeSymbol] at hshift
    exact clock_of_action (s := s.placeSymbol .terminator) hs hrst hshift

/-! ### The keyed output -/

/-- The key is high while an on-event counts (`43_timing.md` R183). -/
theorem keyOut_iff (s : State) :
    keyOut s = true ↔ s.fsm = .tSym ∧ s.evOn = true ∧ s.cnt ≠ 0#19 := by
  simp [keyOut, and_assoc]

/-- The host observes the outputs of the state before the edge (`45_cycle_fsm.md` R231). -/
theorem step_out {s t : State} (h : step s = .next t) : t.out = outputs s s.pins.regAddr := by
  rw [step_eq_cycle] at h
  obtain ⟨-, ⟨-, rfl⟩ | ⟨-, u, -, rfl⟩⟩ := (clock_next_iff s s.pins t).1 h
  · rfl
  · rfl

/-- An ABORT leaves the key low. -/
theorem keyOut_edge_of_abort (s u : State) {p : Inputs} (h : aborts p = true) :
    keyOut (edge s p u) = false := by
  simp [keyOut, edge, afterAction_of_abort h]

/-- The register write touches nothing that the key depends on. -/
theorem keyOut_edge_of_not_abort (s u : State) {p : Inputs} (h : aborts p = false) :
    keyOut (edge s p u) = keyOut u := by
  simp [keyOut, edge, afterAction_of_not_abort h]

/-- After a state action the key is high only if it was high before, or an on-event was loaded. -/
theorem ActionCase.key_raised {s u : State} {p : Inputs}
    (h : ActionCase p.tick s (beforeAction s p) u) (hkey : keyOut u = true) :
    keyOut s = true ∨ u.evStb = true ∧ u.cnt = u.evTicks := by
  obtain ⟨hsym, hon, -⟩ := (keyOut_iff u).1 hkey
  cases h with
  | loadSym => exact .inr ⟨rfl, rfl⟩
  | count hf hc =>
    exact .inl ((keyOut_iff s).2 ⟨by simpa using hsym, by simpa using hon, hc⟩)
  | wait hf | miss hf => simp [hf] at hsym
  | drop => exact absurd hsym (afterCharacter_untimed s.holdLast).2
  | unknown | endChar =>
    exact absurd (by simpa using hsym) (afterCharacter_untimed s.curLast).2
  | take | found | loadGap | expire | close => simp at hsym

/-- Settles O54: the output is that of the state before the edge, and only a load of an event raises
the key. -/
theorem keyRisesOnlyWithAnOnEvent : Obligations.KeyRisesOnlyWithAnOnEvent := by
  intro s t _ hst
  refine ⟨by rw [step_out hst]; rfl, fun hlow hhigh => ?_⟩
  cases hrst : s.pins.rst with
  | true =>
    obtain rfl := step_of_reset hst hrst
    simp [keyOut_iff] at hhigh
  | false =>
    obtain ⟨u, hu, rfl⟩ := step_cases hst hrst
    cases hab : aborts s.pins with
    | true => simp [keyOut_edge_of_abort s u hab] at hhigh
    | false =>
      rw [keyOut_edge_of_not_abort s u hab] at hhigh
      have hon : u.evOn = true := ((keyOut_iff u).1 hhigh).2.1
      obtain hwas | ⟨hstb, hcnt⟩ := hu.key_raised hhigh
      · simp [hlow] at hwas
      · simpa [edge, afterAction_of_not_abort hab] using And.intro hstb ⟨hon, hcnt⟩

/-! ### Runs of a counting event -/

/-- The ticks of one more cycle. -/
theorem ticksIn_succ (s : State) (n : Nat) :
    ticksIn s (n + 1) = ticksIn s n + (s.pinsAt n).tick.toNat := by
  cases h : (s.pinsAt n).tick <;> simp [ticksIn, List.range_succ, h]

/-- After `n` cycles the event that counted in `s` stands in `u`, counted down by their ticks. -/
structure EventReaches (s : State) (n : Nat) (u : State) : Prop where
  run : runSteps n s = some u
  cfg : u.cfg = s.cfg
  fsm : u.fsm = s.fsm
  cnt : u.cnt.toNat = s.cnt.toNat - ticksIn s n
  sr : u.sr = s.sr
  slot : u.slot = s.slot
  evOn : u.evOn = s.evOn

/-- One cycle of a counting event, without reset and ABORT. -/
theorem step_of_counting {s : State} (hs : supported s.cfg = true)
    (hf : s.fsm = .tGap ∨ s.fsm = .tSym) (hc : s.cnt ≠ 0#19) (hk : keepsMessage s.pins = true) :
    step s = .next (advance s s.pins
      (regWrite s s.pins (countTick s.pins.tick s (beforeAction s s.pins)))) := by
  rw [step_eq_cycle, ← edge_of_keepsMessage hk]
  exact clock_of_action hs ((keepsMessage_iff s.pins).1 hk).1 (fsmAction_of_counting hf hc _ _)

/-- A counter after one counting cycle. -/
theorem countTick_cnt_toNat {s t : State} (ht : t.cnt = s.cnt) (hc : s.cnt ≠ 0#19) (tick : Bool) :
    (countTick tick s t).cnt.toNat = s.cnt.toNat - tick.toNat := by
  cases tick
  · simp [countTick, ht]
  · simpa [countTick] using ticks_sub_one_toNat hc

/-- An event that has ticks left to count goes on for one more cycle. -/
theorem EventReaches.next {s u : State} {n : Nat} (h : EventReaches s n u)
    (hs : supported s.cfg = true) (hf : s.fsm = .tGap ∨ s.fsm = .tSym)
    (hk : keepsMessage (s.pinsAt n) = true) (hlt : ticksIn s n < s.cnt.toNat) :
    ∃ t, EventReaches s (n + 1) t := by
  have hpins : u.pins = s.pinsAt n := pinsAt_of_runSteps h.run 0
  have hc : u.cnt ≠ 0#19 := by
    have hcnt := h.cnt
    intro hzero
    simp [hzero] at hcnt
    omega
  have hst := step_of_counting (h.cfg ▸ hs) (h.fsm ▸ hf) hc (hpins ▸ hk)
  have hcount := countTick_cnt_toNat (beforeAction_cnt u u.pins) hc u.pins.tick
  rw [h.cnt, hpins, Nat.sub_sub, ← ticksIn_succ] at hcount
  exact ⟨_, runSteps_succ_of_step h.run hst, by simpa using h.cfg, by simpa using h.fsm,
    by simpa [hpins] using hcount, by simpa using h.sr, by simpa using h.slot, by simpa using h.evOn⟩

/-- An event stays through any number of cycles with fewer ticks than it counts. -/
theorem exists_eventReaches {s : State} (hs : supported s.cfg = true)
    (hf : s.fsm = .tGap ∨ s.fsm = .tSym) (n : Nat)
    (hk : ∀ k, k < n → keepsMessage (s.pinsAt k) = true) (hlt : ticksIn s n < s.cnt.toNat) :
    ∃ u, EventReaches s n u := by
  induction n with
  | zero => exact ⟨s, rfl, rfl, rfl, rfl, rfl, rfl, rfl⟩
  | succ n ih =>
    have hle : ticksIn s n < s.cnt.toNat := by
      rw [ticksIn_succ] at hlt
      omega
    obtain ⟨u, hu⟩ := ih (fun k hkn => hk k (by omega)) hle
    exact hu.next hs hf (hk n (by omega)) hle

/-- While ticks are left to count the key stays as it is. -/
theorem EventReaches.keyOut_eq {s u : State} {n : Nat} (h : EventReaches s n u)
    (hlt : ticksIn s n < s.cnt.toNat) : keyOut u = keyOut s := by
  have hs : s.cnt ≠ 0#19 := by
    intro hzero
    simp [hzero] at hlt
  have hu : u.cnt ≠ 0#19 := by
    have hcnt := h.cnt
    intro hzero
    simp [hzero] at hcnt
    omega
  simp [keyOut, h.fsm, h.evOn, hs, hu]

/-- Settles O56: the event goes on for one cycle after another while ticks are left to count. -/
theorem eventWaitsForItsTicks : Obligations.EventWaitsForItsTicks := by
  intro n s hs hf hk hlt
  obtain ⟨u, hu⟩ := exists_eventReaches hs hf n hk hlt
  exact ⟨u, hu.run, hu.fsm, hu.cnt, hu.sr, hu.slot, hu.evOn, hu.keyOut_eq hlt⟩

end Sys2Proof.Machine
end

section
/-! PROOFS. `44_host_ops.md`: each host operation against the same cycle without it. A write acts at the
end of the cycle only, a read chooses what the host observes and nothing else, and a character offered
goes past the state action untouched. -/

namespace Sys2Proof.Machine

open Claims

/-! ### Any clock edge -/

/-- A state that meets the invariants has a next state whatever the host drives (`45_cycle_fsm.md` R250). -/
theorem Inv.exists_clock {s : State} (h : Inv s) (p : Inputs) : ∃ t, clock s p = .next t := by
  cases hr : p.rst
  · obtain ⟨u, hu⟩ := exists_fsmAction h p.tick (Machine.beforeAction s p)
    exact ⟨_, clock_of_action h.cfgSupported hr hu⟩
  · exact ⟨_, clock_of_reset h.cfgSupported hr⟩

/-- The host observes the outputs of the state before the edge (R231), at the address it drives. -/
theorem clock_out {s t : State} {p : Inputs} (h : clock s p = .next t) :
    t.out = outputs s p.regAddr := by
  obtain ⟨-, ⟨-, rfl⟩ | ⟨-, u, -, rfl⟩⟩ := (clock_next_iff s p t).1 h <;> rfl

/-! ### Register reads -/

/-- A register read selects `reg_rdata` of a cycle without a register write and changes nothing else of
it (`44_host_ops.md` R208). -/
theorem clock_readPins {s t : State} {p : Inputs} (hw : p.regWe = false) (h : clock s p = .next t)
    (a : RegAddr) :
    clock s (readPins a p) = .next { t with out := { t.out with regRdata := regRead s a } } := by
  obtain ⟨hs, ⟨hr, rfl⟩ | ⟨hr, u, hu, rfl⟩⟩ := (clock_next_iff s p t).1 h
  · exact clock_of_reset (p := readPins a p) hs hr
  · have hend : afterAction s (readPins a p) u = afterAction s p u := by
      rw [afterAction_of_no_write hw, afterAction_of_no_write (p := readPins a p) hw]
    rw [clock_of_action (p := readPins a p) hs hr hu, edge, hend]
    rfl

/-- A register read shows its register in every cycle, with a write or without. -/
theorem Inv.exists_read {s : State} (h : Inv s) (a : RegAddr) :
    ∃ u, clock s (readPins a s.pins) = .next u ∧ u.out.regRdata = regRead s a := by
  obtain ⟨u, hu⟩ := h.exists_clock (readPins a s.pins)
  exact ⟨u, hu, by rw [clock_out hu]; rfl⟩

/-- A read of register `b` shows it in every cycle, and without a write the cycle is otherwise the one
that reads `a`. -/
theorem Inv.exists_read_without_effect {s : State} (h : Inv s) (a b : RegAddr) :
    ∃ u, clock s (readPins b s.pins) = .next u ∧ u.out.regRdata = regRead s b
      ∧ (s.pins.regWe = false → ∃ t, cycleWith s { s.pins with regAddr := a } = .next t
          ∧ u = { t with out := { t.out with regRdata := regRead s b } }) := by
  obtain ⟨u, hu, hshow⟩ := h.exists_read b
  refine ⟨u, hu, hshow, fun hw => ?_⟩
  obtain ⟨t, ht⟩ := h.exists_clock (readPins a s.pins)
  have hread : clock s (readPins b s.pins) = _ := clock_readPins (p := readPins a s.pins) hw ht b
  rw [hu] at hread
  exact ⟨t, ht, Host.Outcome.next.inj hread⟩

/-- `CTRL` reads as `LENIENT` in bit 0 and zeros (R216). -/
theorem regRead_ctrl (s : State) : regRead s 1#2 = if s.lenient then 1#16 else 0#16 := by
  have hzext (b : Bool) : (bit b).setWidth 16 = if b then 1#16 else 0#16 := by
    revert b; decide
  exact hzext s.lenient

/-- `BUSY` in words (`10_state.md` R42). -/
theorem busy_iff (s : State) : busy s = true ↔ s.fsm ≠ .idle ∨ s.holdValid = true := by
  simp [busy]

/-- The bits of `STATUS` (R217); bit 1 is `regRead_status_unk`. -/
theorem regRead_status_bits (s : State) :
    (regRead s 2#2).getLsbD 0 = busy s ∧ (regRead s 2#2).getLsbD 2 = s.fatal
      ∧ (regRead s 2#2).getLsbD 3 = s.skip ∧ (regRead s 2#2).toNat < 16 := by
  have hbits (a b c d : Bool) :
      let v : Word16 := (bit a ++ bit b ++ bit c ++ bit d).setWidth 16
      v.getLsbD 0 = d ∧ v.getLsbD 2 = b ∧ v.getLsbD 3 = a ∧ v.toNat < 16 := by
    revert a b c d; decide
  exact hbits s.skip s.fatal s.unk (busy s)

/-- The value of fields side by side. -/
theorem toNat_append_add {m n : Nat} (a : BitVec m) (b : BitVec n) :
    (a ++ b).toNat = a.toNat * 2 ^ n + b.toNat := by
  rw [BitVec.toNat_append, ← Nat.shiftLeft_add_eq_or_of_lt b.isLt, Nat.shiftLeft_eq]

/-- `LOOKUP` by the values of its fields (R218). -/
theorem regRead_lookup_toNat (s : State) : (regRead s 3#2).toNat =
    s.lkChar.toNat * 256 + (if s.lkFound then 128 else 0) + s.lkIdx.toNat := by
  have hread : regRead s 3#2 = s.lkChar ++ bit s.lkFound ++ 0#1 ++ s.lkIdx := rfl
  rw [hread, toNat_append_add, toNat_append_add, toNat_append_add]
  cases s.lkFound <;> simp <;> omega

/-- Settles O43: the reads of the same cycle, with the values of the two registers. -/
theorem readUnitAndCtrlShowTheRegisters : Obligations.ReadUnitAndCtrlShowTheRegisters := by
  refine ⟨fun a s h => ⟨fun hw => ?_, ?_, ?_⟩, rfl, rfl⟩
  · obtain ⟨t, ht⟩ := h.exists_clock (readPins a s.pins)
    refine ⟨t, ht, clock_readPins (p := readPins a s.pins) hw ht 0#2, ?_⟩
    rw [← regRead_ctrl]
    exact clock_readPins (p := readPins a s.pins) hw ht 1#2
  · exact h.exists_read 0#2
  · rw [← regRead_ctrl]
    exact h.exists_read 1#2

/-- Settles O44: the read of `STATUS`, and its bits. -/
theorem readStatusShowsTheFlags : Obligations.ReadStatusShowsTheFlags := by
  intro a s h
  obtain ⟨u, hu, hshow, hkeep⟩ := h.exists_read_without_effect a 2#2
  obtain ⟨hbusy, hfatal, hskip, hlt⟩ := regRead_status_bits s
  exact ⟨u, regRead s 2#2, hu, hshow, by rw [hbusy, busy_iff], regRead_status_unk s, hfatal, hskip,
    hlt, hkeep⟩

/-- Settles O45: the read of `LOOKUP`, and its value by fields. -/
theorem readLookupShowsTheLastSearch : Obligations.ReadLookupShowsTheLastSearch := by
  refine ⟨fun a s h => ?_, rfl, rfl, rfl⟩
  obtain ⟨u, hu, hshow, hkeep⟩ := h.exists_read_without_effect a 3#2
  exact ⟨u, regRead s 3#2, hu, hshow, regRead_lookup_toNat s, hkeep⟩

/-! ### Register writes -/

/-- The end of a cycle that writes UNIT (R209). -/
theorem afterAction_writeUnit (v : Word16) (s : State) (p : Inputs) (t : State) :
    afterAction s (writePins 0#2 v p) t = { t with unit := v } := by
  simp [afterAction, abortStep, aborts, regWrite, writesReg, writePins]

/-- The end of a cycle that writes STATUS writes `unk` only, and there a search that reaches the sentinel
wins (R212). -/
theorem afterAction_writeStatus_unk (v : Word16) (s : State) (p : Inputs) (t : State) :
    afterAction s (writePins 2#2 v p) t =
      { t with unk := if v.getLsbD 1 = true
                  ∧ ¬ (s.fsm = .scan ∧ s.cfg.charRom.read s.idx.toNat = some s.cfg.sentinel)
                then false else t.unk } := by
  simp only [afterAction_writeStatus, Bool.and_eq_true, Bool.not_eq_true', unkSetNow_eq_false_iff]
  split <;> rfl

/-- A register write against the same cycle without it: one state action, whose outcome `u` the write
changes at the end of the cycle (`45_cycle_fsm.md` R231 step 4). -/
theorem Inv.exists_write {s : State} (h : Inv s) (hr : s.pins.rst = false) (a : RegAddr)
    (v : Word16) :
    ∃ u, ActionCase s.pins.tick s (Machine.beforeAction s s.pins) u
      ∧ cycleWith s { s.pins with regWe := false, regAddr := a }
          = .next (Machine.advance s (readPins a s.pins) u)
      ∧ clock s (writePins a v s.pins)
          = .next (Machine.advance s (readPins a s.pins)
              (Machine.afterAction s (writePins a v s.pins) u)) := by
  obtain ⟨u, hu⟩ := exists_fsmAction h s.pins.tick (Machine.beforeAction s s.pins)
  refine ⟨u, fsmAction_cases hu, ?_, clock_of_action (p := writePins a v s.pins) h.cfgSupported hr hu⟩
  have hedge := clock_of_action (p := { s.pins with regWe := false, regAddr := a }) h.cfgSupported hr hu
  rwa [edge, afterAction_of_no_write rfl] at hedge

/-- Settles O38: no state action writes `UNIT`, and the write sets it at the end of the cycle. -/
theorem writeUnitSetsUnitOnly : Obligations.WriteUnitSetsUnitOnly := by
  intro v s h hr
  obtain ⟨u, hu, hwithout, hwith⟩ := h.exists_write hr 0#2 v
  rw [afterAction_writeUnit] at hwith
  exact ⟨_, hwithout, by simpa using hu.hostRegs.1, hwith⟩

/-- Settles O39: no state action writes the mode, and bit 1 aborts at the end of the cycle. -/
theorem writeCtrlSetsModeAndAborts : Obligations.WriteCtrlSetsModeAndAborts := by
  intro v s h hr
  obtain ⟨u, hu, hwithout, hwith⟩ := h.exists_write hr 1#2 v
  rw [afterAction_writeCtrl] at hwith
  refine ⟨_, hwithout, by simpa using hu.hostRegs.2, hwith.trans ?_⟩
  cases v.getLsbD 1 <;> rfl

/-- Settles O40: the write clears `unk` at the end of the cycle unless the search sets it there. -/
theorem writeStatusClearsUnk : Obligations.WriteStatusClearsUnk := by
  intro v s h hr
  obtain ⟨u, -, hwithout, hwith⟩ := h.exists_write hr 2#2 v
  rw [afterAction_writeStatus_unk] at hwith
  exact ⟨_, hwithout, hwith⟩

/-- Settles O41: neither the reset action nor the end of the cycle reads a write of LOOKUP. -/
theorem writeLookupHasNoEffect : Obligations.WriteLookupHasNoEffect := by
  intro v s h
  cases hr : s.pins.rst
  · obtain ⟨u, -, hwithout, hwith⟩ := h.exists_write hr 3#2 v
    rw [afterAction_writeLookup] at hwith
    exact ⟨_, hwithout, hwith⟩
  · exact ⟨_, clock_of_reset (p := { s.pins with regWe := false, regAddr := 3#2 }) h.cfgSupported hr,
      clock_of_reset (p := writePins 3#2 v s.pins) h.cfgSupported hr⟩

/-! ### A character on the input port -/

/-- The state `t` with the character `c` in the holding register, as given (`44_host_ops.md` R203). -/
def State.store (last : Bool) (c : Byte) (t : State) : State :=
  { t with holdValid := true, holdChar := c, holdLast := last }

/-- What PUTC does before the state action: a ready core stores the character. -/
theorem beforeAction_putcPins (last : Bool) (c : Byte) (s : State) (p : Inputs) :
    beforeAction s (putcPins last c p) =
      if inReady s then (beforeAction s { p with inValid := false }).store last c
      else beforeAction s { p with inValid := false } := by
  cases hr : inReady s <;> simp [beforeAction, transfer, transfers, putcPins, hr, State.store]

/-- The exception UnknownCharacter leaves the holding register alone. -/
theorem takeUnknownCharacter_store (last : Bool) (c : Byte) (s t : State) :
    takeUnknownCharacter s (t.store last c) = (takeUnknownCharacter s t).store last c := by
  unfold takeUnknownCharacter
  cases s.lenient <;> rfl

/-- Counting leaves the holding register alone. -/
theorem countTick_store (tick last : Bool) (c : Byte) (s t : State) :
    countTick tick s (t.store last c) = (countTick tick s t).store last c := by
  cases tick <;> rfl

/-- The state action does not see a character stored in its own cycle: it reads the state before the
edge, and only `IDLE` writes the holding register, when it was full. -/
theorem fsmAction_store {tick : Bool} {s t u : State} (hv : s.holdValid = false)
    (h : fsmAction tick s t = .next u) (last : Bool) (c : Byte) :
    fsmAction tick s (t.store last c) = .next (u.store last c) := by
  cases hf : s.fsm with
  | idle =>
    obtain rfl : t = u := by simpa [fsmAction, hf, idleAction, hv] using h
    simp [fsmAction, hf, idleAction, hv]
  | scan =>
    simp only [fsmAction, hf, scanAction_next_iff] at h ⊢
    obtain ⟨d, hr, ⟨hd, rfl⟩ | ⟨hd, hc, w, hw, rfl⟩ | ⟨hd, hc, rfl⟩⟩ := h
    · exact ⟨d, hr, .inl ⟨hd, (takeUnknownCharacter_store last c s t).symm⟩⟩
    · exact ⟨d, hr, .inr (.inl ⟨hd, hc, w, hw, rfl⟩)⟩
    · exact ⟨d, hr, .inr (.inr ⟨hd, hc, rfl⟩)⟩
  | unpack =>
    simp only [fsmAction, hf, unpackAction_next_iff] at h ⊢
    obtain ⟨hd, rfl⟩ | ⟨hd, hg, rfl⟩ | ⟨hd, hg, e, he, rfl⟩ := h
    · exact .inl ⟨hd, rfl⟩
    · exact .inr (.inl ⟨hd, hg, rfl⟩)
    · exact .inr (.inr ⟨hd, hg, e, he, rfl⟩)
  | tGap =>
    simp only [fsmAction, hf, gapAction_next_iff] at h ⊢
    obtain ⟨hc, e, he, rfl⟩ | ⟨hc, rfl⟩ := h
    · exact .inl ⟨hc, e, he, rfl⟩
    · exact .inr ⟨hc, (countTick_store tick last c s t).symm⟩
  | tSym =>
    obtain rfl : symAction tick s t = u := by simpa [fsmAction, hf] using h
    by_cases hc : s.cnt = 0#19
    · simp only [fsmAction, hf, symAction, if_pos hc]
      rfl
    · simp only [fsmAction, hf, symAction, if_neg hc, countTick_store]
  | done =>
    obtain rfl : endMessage t = u := by simpa [fsmAction, hf] using h
    simp only [fsmAction, hf]
    rfl

/-- No register write touches the holding register. -/
theorem regWrite_store (last : Bool) (c : Byte) (s : State) (p : Inputs) (t : State) :
    regWrite s p (t.store last c) = (regWrite s p t).store last c := by
  unfold regWrite
  repeat' split
  all_goals rfl

/-- At the end of the cycle a stored character stays, unless an ABORT discards it (R211). -/
theorem afterAction_store (last : Bool) (c : Byte) (s : State) (p : Inputs) (t : State) :
    afterAction s p (t.store last c) =
      { afterAction s p t with holdValid := !aborts p, holdChar := c, holdLast := last } := by
  cases hab : aborts p
  · rw [afterAction_of_not_abort hab, afterAction_of_not_abort hab, regWrite_store]
    rfl
  · rw [afterAction_of_abort hab, afterAction_of_abort hab]
    rfl

/-- `in_ready` in words (R202). -/
theorem inReady_iff (s : State) : inReady s = true ↔ s.holdValid = false ∧ s.fatal = false := by
  simp [inReady]

/-- Settles O37: a ready core stores the character before the state action, which does not see it; a
core that is not ready has the cycle without the offer. -/
theorem putcTransfersWhenReady : Obligations.PutcTransfersWhenReady := by
  intro last c s h hr
  obtain ⟨u, hu⟩ := exists_fsmAction h s.pins.tick (beforeAction s { s.pins with inValid := false })
  refine ⟨_, clock_of_action (p := { s.pins with inValid := false }) h.cfgSupported hr hu, ?_⟩
  have hbefore := beforeAction_putcPins last c s s.pins
  by_cases hready : inReady s = true
  · have hfree := (inReady_iff s).1 hready
    have hstored := fsmAction_store hfree.1 hu last c
    rw [if_pos hready] at hbefore
    rw [← hbefore] at hstored
    rw [if_pos hfree]
    refine (clock_of_action (p := putcPins last c s.pins) h.cfgSupported hr hstored).trans ?_
    rw [edge, afterAction_store]
    rfl
  · rw [if_neg hready] at hbefore
    rw [← hbefore] at hu
    rw [if_neg (mt (inReady_iff s).2 hready)]
    exact clock_of_action (p := putcPins last c s.pins) h.cfgSupported hr hu

end Sys2Proof.Machine
end

section
/-! PROOFS. `45_cycle_fsm.md` R231 to R238: the two ends of a cycle, and the whole next state of each
control state, of a symbol at the head of `sr` and of a character in `IDLE`. Each is the clock edge of
its state action. -/

namespace Sys2Proof.Machine

open Claims

/-! ### The ends of a cycle -/

/-- A character is transferred when it is offered to a core that is empty and not fatal (R202). -/
theorem transfers_iff (s : State) (p : Inputs) :
    transfers s p = true ↔ p.inValid = true ∧ s.holdValid = false ∧ s.fatal = false := by
  simp [transfers, inReady_iff]

/-- Settles O19, by whether a character is transferred. -/
theorem cycleOpensWithStrobeAndTransfer : Obligations.CycleOpensWithStrobeAndTransfer := by
  intro s p
  by_cases h : transfers s p = true
  · rw [if_pos ((transfers_iff s p).1 h), beforeAction, transfer, if_pos h]
  · rw [if_neg (mt (transfers_iff s p).2 h), beforeAction, transfer, if_neg h]

/-- A register write on the port, as the values the host drives. -/
theorem writePins_self {p : Inputs} {a : RegAddr} (hw : p.regWe = true) (ha : p.regAddr = a) :
    writePins a p.regWdata p = p := by
  rw [writePins, ← hw, ← ha]

/-- Settles O20: the end of the cycle for each register written. -/
theorem cycleEndsWithWriteAndAbort : Obligations.CycleEndsWithWriteAndAbort := by
  intro s p t
  refine ⟨afterAction_of_no_write, fun hw ha => ?unit, fun hw ha hb => ?ctrl, fun hw ha hb => ?abort,
    fun hw ha => ?status, fun hw ha => ?lookup⟩
  case unit =>
    have hend := afterAction_writeUnit p.regWdata s p t
    rwa [writePins_self hw ha] at hend
  case ctrl | abort =>
    have hend := afterAction_writeCtrl p.regWdata s p t
    rwa [writePins_self hw ha, hb] at hend
  case status =>
    have hend := afterAction_writeStatus p.regWdata s p t
    rw [writePins_self hw ha] at hend
    simpa only [Bool.and_eq_true, Bool.not_eq_true', unkSetNow_eq_false_iff] using hend
  case lookup =>
    have hend := afterAction_writeLookup p.regWdata s p t
    rwa [writePins_self hw ha] at hend

/-! ### Each control state -/

/-- A step without reset, given what its state action answers. -/
theorem step_of_fsmAction {s t : State} (hs : supported s.cfg = true) (hr : s.pins.rst = false)
    (hf : fsmAction s.pins.tick s (beforeAction s s.pins) = .next t) :
    step s = .next (edge s s.pins t) := by
  rw [step_eq_cycle]
  exact clock_of_action hs hr hf

/-- The state action of `IDLE` with nothing held. -/
theorem fsmAction_of_idle_empty {s : State} (hf : s.fsm = .idle) (hv : s.holdValid = false)
    (tick : Bool) (t : State) : fsmAction tick s t = .next t := by
  simp [fsmAction, hf, idleAction, hv]

/-- The state action of `IDLE` with a character of a failed message held. -/
theorem fsmAction_of_idle_drop {s : State} (hf : s.fsm = .idle) (hv : s.holdValid = true)
    (hs : s.skip = true) (tick : Bool) (t : State) : fsmAction tick s t =
      .next { t with holdValid := false, fsm := if s.holdLast then .done else .idle } := by
  simp [fsmAction, hf, idleAction, hv, hs]

/-- The state action of `IDLE` with a character held. -/
theorem fsmAction_of_idle_take {s : State} (hf : s.fsm = .idle) (hv : s.holdValid = true)
    (hs : s.skip = false) (tick : Bool) (t : State) : fsmAction tick s t =
      .next { t with holdValid := false, curChar := normalize s.holdChar, curLast := s.holdLast,
                     idx := 0#6, fsm := .scan } := by
  simp [fsmAction, hf, idleAction, hv, hs]

/-- A fatal core takes no character (R202). -/
theorem beforeAction_of_fatal {s : State} (p : Inputs) (h : s.fatal = true) :
    beforeAction s p = { s with evStb := false } := by
  simp [beforeAction, transfer, transfers, inReady, h]

/-- The end of a cycle keeps `IDLE`, with ABORT or without. -/
theorem edge_fsm_of_idle {s t : State} (p : Inputs) (hf : t.fsm = .idle) :
    (edge s p t).fsm = .idle := by
  cases ha : aborts p
  · simp [edge, afterAction_of_not_abort ha, hf]
  · simp [edge, afterAction_of_abort ha]

/-- The end of a cycle hands over no character, with ABORT or without. -/
theorem edge_holdValid_of_empty {s t : State} (p : Inputs) (hv : t.holdValid = false) :
    (edge s p t).holdValid = false := by
  cases ha : aborts p
  · simp [edge, afterAction_of_not_abort ha, hv]
  · simp [edge, afterAction_of_abort ha]

/-- Settles O21, by what is held; a fatal core has nothing transferred either. -/
theorem idleTakesOrDropsTheHeldCharacter : Obligations.IdleTakesOrDropsTheHeldCharacter := by
  intro s hs hr hf
  have hempty (hv : s.holdValid = false) := step_of_fsmAction hs hr (fsmAction_of_idle_empty hf hv _ _)
  refine ⟨hempty, fun hv hk => step_of_fsmAction hs hr (fsmAction_of_idle_drop hf hv hk _ _),
    fun hv hk => step_of_fsmAction hs hr (fsmAction_of_idle_take hf hv hk _ _), fun hfatal hv => ?_⟩
  have hfree : (beforeAction s s.pins).holdValid = false := by
    rw [beforeAction_of_fatal s.pins hfatal]
    exact hv
  exact ⟨_, hempty hv, edge_fsm_of_idle s.pins (by simpa using hf),
    edge_holdValid_of_empty s.pins hfree, by simpa [edge] using hfatal⟩

/-- The state action of `SCAN` is the comparison of one entry. -/
theorem fsmAction_of_scan {s : State} (hf : s.fsm = .scan) (tick : Bool) (t : State) :
    fsmAction tick s t = scanAction s t := by
  rw [fsmAction, hf]

/-- Settles O22: the comparison of one entry has three outcomes, and the mode decides what an unknown
character does to its message. -/
theorem scanComparesOneEntry : Obligations.ScanComparesOneEntry := by
  intro s c hs hr hf hread
  have hstep {t : State} (ht : scanAction s (beforeAction s s.pins) = .next t) :
      step s = .next (edge s s.pins t) :=
    step_of_fsmAction hs hr ((fsmAction_of_scan hf _ _).trans ht)
  have hunknown (hc : c = s.cfg.sentinel) :=
    hstep ((scanAction_next_iff s _ _).2 ⟨c, hread, .inl ⟨hc, rfl⟩⟩)
  refine ⟨fun hc hl => ?_, fun hc hl => ?_, fun w hc hm hw => ?_, fun hc hm => ?_⟩
  · rw [hunknown hc, takeUnknownCharacter, hl]
    rfl
  · rw [hunknown hc, takeUnknownCharacter, hl]
    rfl
  · exact hstep ((scanAction_next_iff s _ _).2 ⟨c, hread, .inr (.inl ⟨hc, hm, w, hw, rfl⟩)⟩)
  · exact hstep ((scanAction_next_iff s _ _).2 ⟨c, hread, .inr (.inr ⟨hc, hm, rfl⟩)⟩)

/-- The state action of `DONE` ends the message. -/
theorem fsmAction_of_done {s : State} (hf : s.fsm = .done) (tick : Bool) (t : State) :
    fsmAction tick s t = .next (endMessage t) := by
  rw [fsmAction, hf]

/-- Settles O23: the end of the message, the outputs of `DONE`, and a held character that stays. -/
theorem doneClosesTheMessage : Obligations.DoneClosesTheMessage := by
  intro s hs hr hf
  have hst := step_of_fsmAction hs hr (fsmAction_of_done hf s.pins.tick (beforeAction s s.pins))
  refine ⟨hst, _, hst, edge_fsm_of_idle _ rfl, ?_, rfl, fun hv ha => ?_⟩
  · exact decide_eq_true hf
  · simp [edge, afterAction_of_not_abort ha, beforeAction_of_holdValid s.pins hv, hv]

/-- Settles O48: a step is the clock edge, which answers under the invariants. -/
theorem stepIsTotalUnderTheInvariants : Obligations.StepIsTotalUnderTheInvariants := by
  intro s h
  rw [step_eq_cycle]
  exact h.exists_clock s.pins

/-! ### Symbols -/

/-- What a row of the symbol table is: its instruction has the symbol's meaning, and the symbol has the
event of the row (`43_timing.md` R170). -/
theorem symbolTable_rows : ∀ r ∈ symbolTable,
    (r.1, r.2.1) ∈ codeTable ∧ r.2.1 ≠ .terminator ∧ (r.2.2.2 = 1 ∨ r.2.2.2 = 3 ∨ r.2.2.2 = 7)
      ∧ symEvent r.2.1 = some ⟨r.2.2.1, BitVec.ofNat 3 r.2.2.2⟩ := by
  decide

/-- A load in the statements' words: units times `UNIT` is exact in 19 bits (R181). -/
theorem loadEvent_eq_loaded {on : Bool} {units : Nat} (hu : units = 1 ∨ units = 3 ∨ units = 7)
    (s t : State) : loadEvent s ⟨on, BitVec.ofNat 3 units⟩ t = loaded on units s.unit t := by
  have hticks : ratioTicks (BitVec.ofNat 3 units) s.unit = BitVec.ofNat 19 (units * s.unit.toNat) := by
    have hvalue := ratioTicks_toNat (BitVec.ofNat 3 units) s.unit
      (by obtain rfl | rfl | rfl := hu <;> decide)
    have hunits : (BitVec.ofNat 3 units).toNat = units := by obtain rfl | rfl | rfl := hu <;> rfl
    rw [hunits] at hvalue
    rw [← hvalue, BitVec.ofNat_toNat, BitVec.setWidth_eq]
  rw [loadEvent, loaded, hticks]

/-- A gap in the statements' words (`43_timing.md` R172). -/
theorem gapEvent_eq (first : Bool) :
    gapEvent first = ⟨false, BitVec.ofNat 3 (if first then 3 else 1)⟩ := by
  cases first <;> rfl

/-- The meaning of a symbol is the clock edge with its code at the head, given what the state action
there answers. -/
theorem exec_symbol_of_fsmAction {r : Instr × Symbol} (hr : r ∈ codeTable) {s t : State}
    (hs : supported s.cfg = true) (hrst : s.pins.rst = false)
    (ht : fsmAction s.pins.tick (s.placeSymbol r.2) (beforeAction (s.placeSymbol r.2) s.pins)
      = .next t) :
    exec r.1 s = .next (edge (s.placeSymbol r.2) s.pins t) :=
  (exec_codeTable r hr s).trans (clock_of_action (s := s.placeSymbol r.2) hs hrst ht)

/-- The state action of `UNPACK` is the unpacker's decision. -/
theorem fsmAction_of_unpack {s : State} (hf : s.fsm = .unpack) (tick : Bool) (t : State) :
    fsmAction tick s t = unpackAction s t := by
  rw [fsmAction, hf]

/-- A record is finished when the symbol placed at its head is TERMINATOR or eight slots are consumed. -/
theorem recordFinished_placeSymbol (f : Symbol) (s : State) :
    recordFinished (s.placeSymbol f) = true ↔ f = .terminator ∨ s.slot = 8#4 := by
  rw [recordFinished, Bool.or_eq_true, decide_eq_true_iff, decide_eq_true_iff, or_comm]
  simp

/-- An unfinished record whose next symbol has a gap due loads it. -/
theorem unpackAction_of_gap {s : State} (hopen : recordFinished s = false)
    (hgap : needGap s.cfg.wbAbsorb s.havePrev s.prevWb (headSymbol s.sr) = true) (t : State) :
    unpackAction s t =
      .next { loaded false (if s.firstSym then 3 else 1) s.unit t with fsm := .tGap } := by
  have hunits : (if s.firstSym then 3 else 1) = 1 ∨ (if s.firstSym then 3 else 1) = 3
      ∨ (if s.firstSym then 3 else 1) = 7 := by
    cases s.firstSym <;> decide
  rw [← loadEvent_eq_loaded hunits, ← gapEvent_eq]
  exact (unpackAction_next_iff s t _).2 (.inr (.inl ⟨hopen, hgap, rfl⟩))

/-- An unfinished record without a gap due loads its next symbol's event. -/
theorem unpackAction_of_symbol {s : State} {on : Bool} {units : Nat} (hopen : recordFinished s = false)
    (hgap : needGap s.cfg.wbAbsorb s.havePrev s.prevWb (headSymbol s.sr) = false)
    (hu : units = 1 ∨ units = 3 ∨ units = 7)
    (he : symEvent (headSymbol s.sr) = some ⟨on, BitVec.ofNat 3 units⟩) (t : State) :
    unpackAction s t = .next { loaded on units s.unit t with fsm := .tSym } := by
  rw [← loadEvent_eq_loaded hu]
  exact (unpackAction_next_iff s t _).2 (.inr (.inr ⟨hopen, hgap, _, he, rfl⟩))

/-- Settles O27: an unfinished record loads the gap that is due, or else its symbol's event. -/
theorem symbolInUnpackLoadsGapOrEvent : Obligations.SymbolInUnpackLoadsGapOrEvent := by
  intro r hr s hs hrst hf hslot p
  obtain ⟨hcode, hne, hunits, hevent⟩ := symbolTable_rows r hr
  refine exec_symbol_of_fsmAction hcode hs hrst
    ((fsmAction_of_unpack (s := s.placeSymbol r.2.1) hf _ _).trans ?_)
  have hhead : headSymbol (s.placeSymbol r.2.1).sr = r.2.1 := headSymbol_setHead _ _
  have hopen : recordFinished (s.placeSymbol r.2.1) = false := by
    rw [← Bool.not_eq_true, recordFinished_placeSymbol]
    exact not_or.2 ⟨hne, hslot⟩
  have hneed := needGap_iff s.cfg.wbAbsorb s.havePrev s.prevWb r.2.1
  split
  next hgap => exact unpackAction_of_gap hopen (by rw [hhead]; exact hneed.2 hgap) _
  next hgap =>
    exact unpackAction_of_symbol hopen (by rw [hhead]; exact Bool.eq_false_iff.2 (mt hneed.1 hgap))
      hunits (by rwa [hhead]) _

/-- The state action of an expired gap loads the event of the symbol it was waiting for. -/
theorem fsmAction_of_expired_gap_symbol {s : State} {on : Bool} {units : Nat} (hf : s.fsm = .tGap)
    (hc : s.cnt = 0#19) (hu : units = 1 ∨ units = 3 ∨ units = 7)
    (he : symEvent (headSymbol s.sr) = some ⟨on, BitVec.ofNat 3 units⟩) (tick : Bool) (t : State) :
    fsmAction tick s t = .next { loaded on units s.unit t with fsm := .tSym } := by
  rw [← loadEvent_eq_loaded hu, fsmAction, hf]
  exact (gapAction_next_iff tick s t _).2 (.inl ⟨hc, _, he, rfl⟩)

/-- Settles O28: the expired gap loads the event of the symbol placed at the head. -/
theorem symbolAfterItsGapLoadsItsEvent : Obligations.SymbolAfterItsGapLoadsItsEvent := by
  intro r hr s hs hrst hf hc
  obtain ⟨hcode, -, hunits, hevent⟩ := symbolTable_rows r hr
  have hhead : headSymbol (s.placeSymbol r.2.1).sr = r.2.1 := headSymbol_setHead _ _
  exact exec_symbol_of_fsmAction hcode hs hrst
    (fsmAction_of_expired_gap_symbol (s := s.placeSymbol r.2.1) hf hc hunits (by rwa [hhead]) _ _)

/-- Settles O29: the expiry of the symbol placed at the head shifts it out. -/
theorem symbolExpiryShiftsTheRecord : Obligations.SymbolExpiryShiftsTheRecord := by
  intro r hr s hs hrst hf hc
  have hshift := fsmAction_of_expired_symbol (s := s.placeSymbol r.2.1) hf hc s.pins.tick
    (beforeAction (s.placeSymbol r.2.1) s.pins)
  rw [finishSymbol_placeSymbol] at hshift
  exact exec_symbol_of_fsmAction (symbolTable_rows r hr).1 hs hrst hshift

/-- The symbol of the TERMINATOR row. -/
theorem symbol_of_terminator : ∀ r ∈ codeTable, r.1 = .terminator → r.2 = .terminator := by decide

/-- Settles O31: both triggers finish the record. -/
theorem terminatorOrEighthSlotEndsTheCharacter :
    Obligations.TerminatorOrEighthSlotEndsTheCharacter := by
  intro r hr s hs hrst hf hend
  have hfinished : recordFinished (s.placeSymbol r.2) = true :=
    (recordFinished_placeSymbol r.2 s).2 (hend.imp_left (symbol_of_terminator r hr))
  have haction := (unpackAction_next_iff (s.placeSymbol r.2)
    (beforeAction (s.placeSymbol r.2) s.pins) _).2 (.inl ⟨hfinished, rfl⟩)
  exact exec_symbol_of_fsmAction hr hs hrst
    ((fsmAction_of_unpack (s := s.placeSymbol r.2) hf _ _).trans haction)

/-! ### Characters -/

/-- The normalised codes of the rows of the character tables (`41_char_index.md` R130). -/
theorem normalize_codeRows : ∀ r ∈ codeRows, normalize r.2.1 = r.2.2.1 := by decide

/-- The meaning of a character outside `SCAN` is the cycle with its code held. -/
theorem exec_codeRow_of_not_scan {r : Instr × Byte × Byte × Nat × Word16} (hr : r ∈ codeRows)
    {s : State} (hf : s.fsm ≠ .scan) : exec r.1 s = cycle { s with holdValid := true, holdChar := r.2.1 } := by
  rw [exec_eq_cycleOfWord_encode, encode_characterTable r hr, cycleOfWord, State.placeChar, if_neg hf]

/-- Settles O33: the row's meaning is the cycle of `IDLE` with its code held. -/
theorem characterInIdleIsTaken : Obligations.CharacterInIdleIsTaken := by
  intro r hr s hs hrst hf p
  have hexec : exec r.1 s = clock p s.pins := exec_codeRow_of_not_scan hr (by simp [hf])
  refine ⟨fun hk => ?_, fun hk => ?_⟩
  · rw [hexec, ← normalize_codeRows r hr]
    exact clock_of_action hs hrst (fsmAction_of_idle_take (s := p) hf rfl hk _ _)
  · rw [hexec]
    exact clock_of_action hs hrst (fsmAction_of_idle_drop (s := p) hf rfl hk _ _)

end Sys2Proof.Machine
end

section
/-! PROOFS. `45_cycle_fsm.md` R262: the core against the functional layer, through runs of any length.
The functional side is read character by character (`streamMarks`), with the modes of the failed lookups
from a source that is either constant or the list of those that the run met; `State.marksLeft` is what a
state still owes, and each cycle pays its own marks. -/

namespace Sys2Proof.Machine

/-! ### Where the modes of the failed lookups come from -/

/-- Asked for the mode that the failed lookup of a normalised code meets, a source answers it and what
is left of the source (`42_encoder.md` R163). -/
abbrev ModeSource (σ : Type) := σ → Byte → Mode × σ

/-- Every failed lookup meets the same mode. -/
def constantMode (mode : Mode) : ModeSource Unit := fun _ _ => (mode, ())

/-- Each failed lookup meets the mode listed for it; one that is not listed ends the encoded part of
its message and the list, as `resolveMessage` has it. -/
def listedMode : ModeSource (List (Byte × Mode))
  | [], _ => (.strict, [])
  | (d, mode) :: later, n => if d = n then (mode, later) else (.strict, [])

section Stream

variable {σ : Type}

/-- Asked for these failed lookups one after the other, the source `modes` answers their modes and
`modes'` is left. -/
def Answers (ask : ModeSource σ) : List (Byte × Mode) → (modes modes' : σ) → Prop
  | [], modes, modes' => modes' = modes
  | (n, mode) :: later, modes, modes' =>
    Answers ask later (ask modes n).2 modes' ∧ (ask modes n).1 = mode

/-- The answers to a list in two parts. -/
theorem answers_of_append {ask : ModeSource σ} {a b : List (Byte × Mode)} {modes modes' : σ}
    (h : Answers ask (a ++ b) modes modes') : ∃ m, Answers ask a modes m ∧ Answers ask b m modes' := by
  induction a generalizing modes with
  | nil => exact ⟨modes, rfl, h⟩
  | cons f a ih =>
    obtain ⟨hlater, hmode⟩ := h
    obtain ⟨m, ha, hb⟩ := ih hlater
    exact ⟨m, ⟨ha, hmode⟩, hb⟩

/-- A list answers itself. -/
theorem answers_listedMode (failures : List (Byte × Mode)) :
    Answers listedMode failures failures [] := by
  induction failures with
  | nil => rfl
  | cons f failures ih => simpa [Answers, listedMode] using ih

/-- A constant source answers failed lookups that all met its mode. -/
theorem answers_constantMode {mode : Mode} {failures : List (Byte × Mode)}
    (h : ∀ f ∈ failures, f.2 = mode) : Answers (constantMode mode) failures () () := by
  induction failures with
  | nil => rfl
  | cons f failures ih =>
    obtain ⟨hf, hlater⟩ := List.forall_mem_cons.1 h
    exact ⟨ih hlater, hf.symm⟩

/-! ### The marks of a stream of characters -/

/-- What is known of the open message between two of its characters: whether a symbol has been emitted,
whether the last one was a WORD_BREAK, whether the message has failed, and the modes to come. -/
structure MessageState (σ : Type) where
  havePrev : Bool
  prevWb : Bool
  failed : Bool
  modes : σ

/-- Before the first character of a message. -/
def MessageState.start (modes : σ) : MessageState σ := ⟨false, false, false, modes⟩

/-- The events of the next character of a message: those of its group, none if it is unknown or the
message has failed (R262 (a)). -/
def takeChar (ask : ModeSource σ) (cfg : Config) (c : Byte) (m : MessageState σ) :
    List Event × MessageState σ :=
  if m.failed then ([], m)
  else
    match encodeChar cfg c with
    | .ok g =>
      let r := groupEvents cfg.wbAbsorb g true m.havePrev m.prevWb
      (r.1, { m with havePrev := r.2.1, prevWb := r.2.2 })
    | .error _ =>
      let a := ask m.modes (normalize c)
      ([], { m with failed := decide (a.1 = .strict), modes := a.2 })

/-- The marks of an input trace (R262 (f)), from a point in the open message on. -/
def streamMarks (ask : ModeSource σ) (cfg : Config) : MessageState σ → List (Byte × Bool) → List Mark
  | _, [] => []
  | m, (c, last) :: rest =>
    let r := takeChar ask cfg c m
    r.1.map .event ++
      (if last then .done r.2.failed :: streamMarks ask cfg (.start r.2.modes) rest
        else streamMarks ask cfg r.2 rest)

/-- The marks after a character: the `done` pulse if it was the last of its message, and those of the
characters that follow. -/
def marksAfter (ask : ModeSource σ) (cfg : Config) (last : Bool) (m : MessageState σ)
    (inputs : List (Byte × Bool)) : List Mark :=
  if last then .done m.failed :: streamMarks ask cfg (.start m.modes) inputs
  else streamMarks ask cfg m inputs

variable {ask : ModeSource σ} {cfg : Config}

/-- The marks of a stream are those of its first character and those after it. -/
theorem streamMarks_cons (m : MessageState σ) (c : Byte) (last : Bool) (rest : List (Byte × Bool)) :
    streamMarks ask cfg m ((c, last) :: rest) = (takeChar ask cfg c m).1.map .event
      ++ marksAfter ask cfg last (takeChar ask cfg c m).2 rest := rfl

/-- A character of a failed message is discarded (`60_exceptions.md` R277). -/
theorem takeChar_of_failed {m : MessageState σ} (h : m.failed = true) (c : Byte) :
    takeChar ask cfg c m = ([], m) := by
  simp [takeChar, h]

/-- A known character gives the events of its group. -/
theorem takeChar_of_ok {m : MessageState σ} {c : Byte} {g : Group} (h : m.failed = false)
    (hc : encodeChar cfg c = .ok g) : takeChar ask cfg c m =
      let r := groupEvents cfg.wbAbsorb g true m.havePrev m.prevWb
      (r.1, { m with havePrev := r.2.1, prevWb := r.2.2 }) := by
  simp [takeChar, h, hc]

/-- An unknown character gives no event, and fails its message in strict mode. -/
theorem takeChar_of_unknown {m : MessageState σ} {c : Byte} (ha : tableAligned cfg = true)
    (h : m.failed = false) (hc : known cfg c = false) : takeChar ask cfg c m =
      ([], { m with failed := decide ((ask m.modes (normalize c)).1 = .strict),
                    modes := (ask m.modes (normalize c)).2 }) := by
  simp [takeChar, h, encodeChar_of_unknown ha hc]

/-- `Normalize` twice is `Normalize` (`41_char_index.md` R130). -/
theorem normalize_normalize (c : Byte) : normalize (normalize c) = normalize c := by
  revert c; decide

/-- A character and its normalised code are the same to the encoder. -/
theorem takeChar_normalize (c : Byte) (m : MessageState σ) :
    takeChar ask cfg (normalize c) m = takeChar ask cfg c m := by
  have hencode : encodeChar cfg (normalize c) = encodeChar cfg c := by
    simp only [encodeChar, lookup, indexOf, normalize_normalize]
  simp only [takeChar, hencode, normalize_normalize]

/-! ### The marks of one message -/

/-- The events of the next characters of a message, and the message after them. -/
def takeChars (ask : ModeSource σ) (cfg : Config) :
    List Byte → MessageState σ → List Event × MessageState σ
  | [], m => ([], m)
  | c :: rest, m =>
    let r := takeChar ask cfg c m
    let q := takeChars ask cfg rest r.2
    (r.1 ++ q.1, q.2)

/-- One more character at the end. -/
theorem takeChars_concat (l : List Byte) (c : Byte) (m : MessageState σ) :
    takeChars ask cfg (l ++ [c]) m =
      ((takeChars ask cfg l m).1 ++ (takeChar ask cfg c (takeChars ask cfg l m).2).1,
        (takeChar ask cfg c (takeChars ask cfg l m).2).2) := by
  induction l generalizing m with
  | nil => simp [takeChars]
  | cons d l ih => simp [takeChars, ih]

/-- A failed message discards all its characters. -/
theorem takeChars_of_failed {m : MessageState σ} (h : m.failed = true) (l : List Byte) :
    takeChars ask cfg l m = ([], m) := by
  induction l with
  | nil => rfl
  | cons c l ih => simp [takeChars, takeChar_of_failed h, ih]

/-- The characters of a message up to the first failed lookup that meets strict mode (R262), and what is
left of the modes. -/
def resolveWith (ask : ModeSource σ) (cfg : Config) : List Byte → σ → List Byte × σ
  | [], modes => ([], modes)
  | c :: rest, modes =>
    if known cfg c then
      let r := resolveWith ask cfg rest modes
      (c :: r.1, r.2)
    else
      match ask modes (normalize c) with
      | (.strict, later) => ([], later)
      | (.lenient, later) =>
        let r := resolveWith ask cfg rest later
        (c :: r.1, r.2)

/-- The groups of a text are independent of the position at which it starts. -/
theorem encodeFrom_lenient_eq_encodeText (ha : tableAligned cfg = true) (text : List Byte) (j : Nat) :
    encodeFrom cfg .lenient text j = encodeText cfg text .lenient :=
  (encodeFrom_lenient_eq_filter ha text j 0).trans (encodeFrom_lenient_eq_filter ha text 0 0).symm

/-- The group of a known character goes before those of the rest of a lenient text. -/
theorem lenientGroups_cons_of_ok (ha : tableAligned cfg = true) {c : Byte} {g : Group}
    (hc : encodeChar cfg c = .ok g) (rest : List Byte) :
    lenientGroups cfg (c :: rest) = g :: lenientGroups cfg rest := by
  obtain ⟨gs, hgs, -⟩ := (encodeTextStrictAndLenient cfg rest ha).2.2
  have hcons : encodeText cfg (c :: rest) .lenient = .ok (g :: gs) := by
    rw [encodeText, encodeFrom_cons_of_ok hc, encodeFrom_lenient_eq_encodeText ha, hgs]
    rfl
  simp only [lenientGroups, hcons, hgs]

/-- An unknown character contributes nothing to a lenient text. -/
theorem lenientGroups_cons_of_unknown (ha : tableAligned cfg = true) {c : Byte}
    (hc : known cfg c = false) (rest : List Byte) :
    lenientGroups cfg (c :: rest) = lenientGroups cfg rest := by
  have hcons : encodeText cfg (c :: rest) .lenient = encodeText cfg rest .lenient := by
    rw [encodeText, encodeFrom_cons_lenient_of_unknown ha hc, encodeFrom_lenient_eq_encodeText ha]
  simp only [lenientGroups, hcons]

/-- The characters of a message that has not failed give the events of those up to the first failed
lookup that meets strict mode, and fail it exactly when these are not all (R262 (a), (b)). -/
theorem takeChars_eq_resolveWith (ha : tableAligned cfg = true) (l : List Byte) {m : MessageState σ}
    (h : m.failed = false) :
    (takeChars ask cfg l m).1 =
        eventsFrom cfg.wbAbsorb (lenientGroups cfg (resolveWith ask cfg l m.modes).1)
          m.havePrev m.prevWb
      ∧ (takeChars ask cfg l m).2.failed = decide ((resolveWith ask cfg l m.modes).1.length < l.length)
      ∧ (takeChars ask cfg l m).2.modes = (resolveWith ask cfg l m.modes).2 := by
  induction l generalizing m with
  | nil => exact ⟨rfl, h, rfl⟩
  | cons c l ih =>
    cases hc : known cfg c with
    | true =>
      obtain ⟨g, hg⟩ := exists_encodeChar_of_known ha hc
      simp only [takeChars, takeChar_of_ok h hg, resolveWith, hc, if_true,
        lenientGroups_cons_of_ok ha hg, eventsFrom, List.length_cons, Nat.add_lt_add_iff_right]
      obtain ⟨hevents, hfailed, hmodes⟩ := ih (m := { m with
        havePrev := (groupEvents cfg.wbAbsorb g true m.havePrev m.prevWb).2.1
        prevWb := (groupEvents cfg.wbAbsorb g true m.havePrev m.prevWb).2.2 }) h
      exact ⟨congrArg _ hevents, hfailed, hmodes⟩
    | false =>
      simp only [takeChars, takeChar_of_unknown ha h hc, resolveWith, hc, List.nil_append]
      obtain ⟨mode, later⟩ := ask m.modes (normalize c)
      cases mode with
      | strict =>
        rw [takeChars_of_failed (by simp)]
        exact ⟨rfl, by simp, rfl⟩
      | lenient =>
        simp only [reduceCtorEq, decide_false, Bool.false_eq_true, if_false,
          lenientGroups_cons_of_unknown ha hc, List.length_cons, Nat.add_lt_add_iff_right]
        exact ih rfl

/-! ### The marks of an input trace -/

/-- The marks of the messages of an input trace, with the modes from a source (R262 (a), (b), (f)). -/
def messagesMarks (ask : ModeSource σ) (cfg : Config) : List (List Byte × Bool) → σ → List Mark
  | [], _ => []
  | (message, complete) :: rest, modes =>
    let r := resolveWith ask cfg message modes
    messageMarks (prefixEvents cfg r.1) complete (decide (r.1.length < message.length))
      ++ messagesMarks ask cfg rest r.2

/-- The marks of one message, by its characters. -/
theorem messagesMarks_cons (ha : tableAligned cfg = true) (message : List Byte) (complete : Bool)
    (rest : List (List Byte × Bool)) (modes : σ) :
    messagesMarks ask cfg ((message, complete) :: rest) modes =
      let r := takeChars ask cfg message (.start modes)
      messageMarks r.1 complete r.2.failed ++ messagesMarks ask cfg rest r.2.modes := by
  obtain ⟨hevents, hfailed, hmodes⟩ :=
    takeChars_eq_resolveWith (ask := ask) ha message (m := .start modes) rfl
  simp only [hevents, hfailed, hmodes]
  rfl

/-- The stream of the characters of an input trace gives the marks of its messages; `cur` are the
characters of the open message that have been taken. -/
theorem streamMarks_eq_messagesMarks_of_open (ha : tableAligned cfg = true)
    (inputs : List (Byte × Bool)) (cur : List Byte) (modes : σ) :
    (takeChars ask cfg cur (.start modes)).1.map .event
        ++ streamMarks ask cfg (takeChars ask cfg cur (.start modes)).2 inputs
      = messagesMarks ask cfg (messagesFrom cur inputs) modes := by
  induction inputs generalizing cur modes with
  | nil =>
    cases cur with
    | nil => rfl
    | cons c cur =>
      rw [messagesFrom, List.isEmpty_cons, if_neg Bool.false_ne_true, messagesMarks_cons ha]
      simp [messageMarks, messagesMarks, streamMarks]
  | cons input rest ih =>
    obtain ⟨c, last⟩ := input
    rw [streamMarks_cons, ← List.append_assoc, ← List.map_append]
    cases last with
    | true =>
      have hrest (left : σ) : streamMarks ask cfg (.start left) rest
          = messagesMarks ask cfg (messagesFrom [] rest) left := ih [] left
      rw [messagesFrom, messagesMarks_cons ha, takeChars_concat]
      simp [messageMarks, marksAfter, hrest]
    | false =>
      have hrest := ih (cur ++ [c]) modes
      rw [takeChars_concat] at hrest
      rw [messagesFrom, ← hrest]
      simp [marksAfter]

/-- The stream of a whole input trace gives the marks of its messages. -/
theorem streamMarks_eq_messagesMarks (ha : tableAligned cfg = true) (inputs : List (Byte × Bool))
    (modes : σ) : streamMarks ask cfg (.start modes) inputs
      = messagesMarks ask cfg (messagesFrom [] inputs) modes :=
  streamMarks_eq_messagesMarks_of_open ha inputs [] modes

/-- With listed modes the encoded part of a message is that of `resolveMessage`. -/
theorem resolveWith_listedMode (message : List Byte) (failures : List (Byte × Mode)) :
    resolveWith listedMode cfg message failures = resolveMessage cfg message failures := by
  induction message generalizing failures with
  | nil => rfl
  | cons c message ih =>
    cases hc : known cfg c with
    | true => simp [resolveWith, resolveMessage, hc, ih]
    | false =>
      cases failures with
      | nil => simp [resolveWith, resolveMessage, hc, listedMode]
      | cons f later =>
        obtain ⟨d, mode⟩ := f
        by_cases hd : d = normalize c
        · cases mode <;> simp [resolveWith, resolveMessage, hc, listedMode, hd, ih]
        · simp [resolveWith, resolveMessage, hc, listedMode, hd]

/-- With a constant mode the encoded part of a message is `encodedPrefix`. -/
theorem resolveWith_constantMode (mode : Mode) (message : List Byte) :
    resolveWith (constantMode mode) cfg message () = (encodedPrefix cfg mode message, ()) := by
  induction message with
  | nil => cases mode <;> rfl
  | cons c message ih =>
    cases hc : known cfg c with
    | true => cases mode <;> simp [resolveWith, hc, ih, encodedPrefix]
    | false =>
      cases mode with
      | strict => simp [resolveWith, hc, encodedPrefix, constantMode]
      | lenient => simpa [resolveWith, hc, constantMode, encodedPrefix] using congrArg Prod.fst ih

/-- With listed modes the marks of an input trace are `resolvedMarks`. -/
theorem messagesMarks_listedMode (messages : List (List Byte × Bool)) (failures : List (Byte × Mode)) :
    messagesMarks listedMode cfg messages failures =
      (resolveMessages cfg messages failures).flatMap fun m =>
        messageMarks (prefixEvents cfg m.2.1) m.2.2 (decide (m.2.1.length < m.1.length)) := by
  induction messages generalizing failures with
  | nil => rfl
  | cons m messages ih => simp [messagesMarks, resolveMessages, resolveWith_listedMode, ih]

/-- With a constant mode the marks of an input trace are `expectedMarks`. -/
theorem messagesMarks_constantMode (mode : Mode) (messages : List (List Byte × Bool)) :
    messagesMarks (constantMode mode) cfg messages () = messages.flatMap fun m =>
      messageMarks (messageEvents cfg mode m.1) m.2 (messageFails cfg mode m.1) := by
  induction messages with
  | nil => rfl
  | cons m messages ih =>
    simp [messagesMarks, resolveWith_constantMode, ih, prefixEvents, messageEvents, messageFails]

/-- The events among the marks of two runs. -/
theorem Mark.events_append (a b : List Mark) : Mark.events (a ++ b) = Mark.events a ++ Mark.events b :=
  List.filterMap_append

/-- The `done` entries among the marks of two runs. -/
theorem Mark.dones_append (a b : List Mark) : Mark.dones (a ++ b) = Mark.dones a ++ Mark.dones b :=
  List.filterMap_append

/-- The events among the marks of a message. -/
theorem events_messageMarks (events : List Event) (complete err : Bool) :
    Mark.events (messageMarks events complete err) = events := by
  cases complete <;> simp [messageMarks, Mark.events, List.filterMap_map]

/-- The `done` entry among the marks of a message. -/
theorem dones_messageMarks (events : List Event) (complete err : Bool) :
    Mark.dones (messageMarks events complete err) = if complete then [err] else [] := by
  cases complete <;> simp [messageMarks, Mark.dones, List.filterMap_map]

/-- The events among the expected marks are the expected event trace (R262 (a)). -/
theorem events_expectedMarks (mode : Mode) (inputs : List (Byte × Bool)) :
    Mark.events (expectedMarks cfg mode inputs) = expectedEvents cfg mode inputs := by
  unfold expectedMarks expectedEvents
  induction messagesFrom [] inputs with
  | nil => rfl
  | cons m messages ih =>
    rw [List.flatMap_cons, Mark.events_append, events_messageMarks, ih, List.flatMap_cons]

/-- The `done` entries among the expected marks are the expected done trace (R262 (b)). -/
theorem dones_expectedMarks (mode : Mode) (inputs : List (Byte × Bool)) :
    Mark.dones (expectedMarks cfg mode inputs) = expectedDones cfg mode inputs := by
  unfold expectedMarks expectedDones
  induction messagesFrom [] inputs with
  | nil => rfl
  | cons m messages ih =>
    rw [List.flatMap_cons, Mark.dones_append, dones_messageMarks, ih]
    cases hm : m.2 <;> simp [hm]

/-! ### What the core knows of the open message -/

/-- What the invariants of `10_state.md` R47 leave open about the open message: a failed message is the
one being discarded, it is discarded in `IDLE` and `DONE` only, and the search for a normalised code has
passed no match. -/
structure MessageInv (s : State) : Prop where
  errIsSkip : s.errMsg = s.skip
  skipEnded : s.skip = true → s.fsm = .idle ∨ s.fsm = .done
  curNormal : s.fsm = .scan → normalize s.curChar = s.curChar
  passed : s.fsm = .scan → ∀ j, j < s.idx.toNat → s.cfg.charRom.read j ≠ some s.curChar

/-- Idle and empty, in words. -/
theorem quiescent_iff (s : State) : s.quiescent = true ↔ s.fsm = .idle ∧ s.holdValid = false := by
  simp [State.quiescent]

/-- No open message, in words (`44_host_ops.md` R205). -/
theorem noMessage_iff (s : State) : s.noMessage = true ↔
    s.havePrev = false ∧ s.prevWb = false ∧ s.skip = false ∧ s.errMsg = false := by
  simp [State.noMessage, and_assoc]

/-- An idle core without an open message knows nothing. -/
theorem messageInv_of_noMessage {s : State} (hf : s.fsm = .idle) (hn : s.noMessage = true) :
    MessageInv s := by
  obtain ⟨-, -, hskip, herr⟩ := (noMessage_iff s).1 hn
  exact ⟨herr.trans hskip.symm, fun _ => .inl hf, by simp [hf], by simp [hf]⟩

/-- Outside `IDLE` and `DONE` the message has not failed. -/
theorem MessageInv.skip_false {s : State} (h : MessageInv s) (hi : s.fsm ≠ .idle) (hd : s.fsm ≠ .done) :
    s.skip = false :=
  Bool.eq_false_iff.2 fun hs => (h.skipEnded hs).elim hi hd

/-- A state that is not in `SCAN` and whose failed message is in `IDLE` or `DONE`. -/
theorem messageInv_of_not_scan {t : State} (he : t.errMsg = t.skip) (hf : t.fsm ≠ .scan)
    (hs : t.skip = true → t.fsm = .idle ∨ t.fsm = .done) : MessageInv t :=
  ⟨he, hs, fun hc => absurd hc hf, fun hc => absurd hc hf⟩

/-- `DONE` and `IDLE`, one of which follows a character. -/
theorem afterCharacter_cases (b : Bool) :
    (if b then Fsm.done else .idle) = .idle ∨ (if b then Fsm.done else .idle) = .done := by
  cases b <;> simp

/-- A core that is between two characters. -/
theorem messageInv_of_ended {t : State} {last : Bool} (hf : t.fsm = if last then .done else .idle)
    (he : t.errMsg = t.skip) : MessageInv t := by
  have hended : t.fsm = .idle ∨ t.fsm = .done := hf ▸ afterCharacter_cases last
  exact messageInv_of_not_scan he (by obtain h | h := hended <;> simp [h]) fun _ => hended

/-- A record under way is in none of the other control states. -/
theorem State.inRecord.ne {s : State} (h : s.inRecord) :
    s.fsm ≠ .idle ∧ s.fsm ≠ .scan ∧ s.fsm ≠ .done := by
  obtain h | h | h := h <;> simp [h]

/-- A record under way leaves alone what waits behind it, and goes on or ends the character. -/
theorem ActionCase.inRecord_frame {tick : Bool} {s t u : State} (h : ActionCase tick s t u)
    (hw : s.inRecord) (ht : t.fsm = s.fsm) :
    (u.cfg = t.cfg ∧ u.curLast = t.curLast ∧ u.skip = t.skip ∧ u.errMsg = t.errMsg)
      ∧ (u.inRecord ∨ u.evStb = t.evStb ∧ u.fsm = if s.curLast then .done else .idle) := by
  cases h with
  | wait hf | drop hf | take hf => exact absurd hf hw.ne.1
  | unknown hf | found w hf | miss hf => exact absurd hf hw.ne.2.1
  | close hf => exact absurd hf hw.ne.2.2
  | endChar => exact ⟨⟨rfl, rfl, rfl, rfl⟩, .inr ⟨rfl, rfl⟩⟩
  | loadGap => exact ⟨⟨rfl, rfl, rfl, rfl⟩, .inl (.inr (.inl rfl))⟩
  | loadSym => exact ⟨⟨rfl, rfl, rfl, rfl⟩, .inl (.inr (.inr rfl))⟩
  | count => exact ⟨by simp, .inl (by simpa [State.inRecord, ht] using hw)⟩
  | expire => exact ⟨⟨rfl, rfl, rfl, rfl⟩, .inl (.inl rfl)⟩

/-- The exception UnknownCharacter fails the message in strict mode (`60_exceptions.md` R277, R278). -/
theorem takeUnknownCharacter_failed (s t : State) :
    (takeUnknownCharacter s t).skip = (!s.lenient || t.skip)
      ∧ (takeUnknownCharacter s t).errMsg = (!s.lenient || t.errMsg) := by
  unfold takeUnknownCharacter
  cases s.lenient <;> simp

/-- A record under way keeps what the core knows of the open message. -/
theorem MessageInv.action_inRecord {s u : State} {p : Inputs} (h : MessageInv s) (hw : s.inRecord)
    (hu : ActionCase p.tick s (beforeAction s p) u) : MessageInv u := by
  obtain ⟨⟨-, -, hskip, herr⟩, hnext⟩ := hu.inRecord_frame hw (beforeAction_fsm s p)
  have hsame : u.errMsg = u.skip := by simpa [hskip, herr] using h.errIsSkip
  obtain hnext | ⟨-, hnext⟩ := hnext
  · refine messageInv_of_not_scan hsame hnext.ne.2.1 fun hc => ?_
    simp [hskip, h.skip_false hw.ne.1 hw.ne.2.2] at hc
  · exact messageInv_of_ended hnext hsame

/-- A state action keeps what the core knows of the open message. -/
theorem MessageInv.action {s u : State} {p : Inputs} (h : MessageInv s)
    (hu : ActionCase p.tick s (beforeAction s p) u) : MessageInv u := by
  have herr : (beforeAction s p).errMsg = (beforeAction s p).skip := by simpa using h.errIsSkip
  have hrecord (hw : s.inRecord) : MessageInv u := h.action_inRecord hw hu
  cases hu with
  | wait hf => exact messageInv_of_ended (last := false) (by simpa using hf) herr
  | drop => exact messageInv_of_ended (last := s.holdLast) rfl herr
  | take hf hv hs => exact ⟨herr, by simp [hs], fun _ => normalize_normalize _, nofun⟩
  | unknown =>
    obtain ⟨hfail, herr'⟩ := takeUnknownCharacter_failed s (beforeAction s p)
    exact messageInv_of_ended (takeUnknownCharacter_fsm _ _) (by rw [herr', hfail, herr])
  | found w hf =>
    have hskip := h.skip_false (by simp [hf]) (by simp [hf])
    exact messageInv_of_not_scan herr nofun (by simp [hskip])
  | miss hf hr hc =>
    have hskip := h.skip_false (by simp [hf]) (by simp [hf])
    have hidx : (s.idx + 1#6).toNat ≤ s.idx.toNat + 1 := by
      rw [BitVec.toNat_add]
      exact Nat.mod_le _ _
    refine ⟨herr, by simp [hskip], fun _ => (beforeAction_curChar s p).symm ▸ h.curNormal hf,
      fun _ j hj => ?_⟩
    obtain hlt | rfl := Nat.lt_succ_iff_lt_or_eq.1 (Nat.lt_of_lt_of_le hj hidx)
    · simpa using h.passed hf j hlt
    · simpa using hc
  | endChar hf | loadGap hf | loadSym e hf | count hf | expire hf =>
    exact hrecord (by unfold State.inRecord; tauto)
  | close => exact messageInv_of_ended (last := false) rfl rfl

/-- The register write keeps what the core knows of the open message. -/
theorem MessageInv.edge {s u : State} {p : Inputs} (h : MessageInv u) (hk : keepsMessage p = true) :
    MessageInv (edge s p u) := by
  rw [edge_of_keepsMessage hk]
  obtain ⟨herr, hskip, hnormal, hpassed⟩ := h
  exact ⟨by simpa using herr, by simpa using hskip, by simpa using hnormal, by simpa using hpassed⟩

/-! ### What a state still owes -/

/-- The character that waits in the holding register, as it was handed over. -/
def State.heldInputs (s : State) : List (Byte × Bool) :=
  if s.holdValid then [(s.holdChar, s.holdLast)] else []

/-- The character transferred in a cycle (R260). -/
def newInputs (s : State) (p : Inputs) : List (Byte × Bool) :=
  if transfers s p then [(p.inChar, p.inLast)] else []

/-- The marks a state still owes when `queue` are the characters not yet taken and `modes` the modes of
the failed lookups to come. -/
def State.marksLeft (ask : ModeSource σ) (s : State) (queue : List (Byte × Bool)) (modes : σ) :
    List Mark :=
  match s.fsm with
  | .idle => streamMarks ask s.cfg ⟨s.havePrev, s.prevWb, s.skip, modes⟩ queue
  | .scan =>
    streamMarks ask s.cfg ⟨s.havePrev, s.prevWb, s.skip, modes⟩ ((s.curChar, s.curLast) :: queue)
  | .unpack | .tGap | .tSym =>
    s.eventsFromNow.1.map .event ++ marksAfter ask s.cfg s.curLast
      ⟨s.eventsFromNow.2.1, s.eventsFromNow.2.2, s.skip, modes⟩ queue
  | .done => .done s.errMsg :: streamMarks ask s.cfg (.start modes) queue

/-- In `IDLE` the characters not yet taken are owed. -/
theorem marksLeft_of_idle {s : State} (h : s.fsm = .idle) (queue : List (Byte × Bool)) (modes : σ) :
    s.marksLeft ask queue modes
      = streamMarks ask s.cfg ⟨s.havePrev, s.prevWb, s.skip, modes⟩ queue := by
  simp only [State.marksLeft, h]

/-- In `SCAN` the character searched is owed first. -/
theorem marksLeft_of_scan {s : State} (h : s.fsm = .scan) (queue : List (Byte × Bool)) (modes : σ) :
    s.marksLeft ask queue modes = streamMarks ask s.cfg ⟨s.havePrev, s.prevWb, s.skip, modes⟩
      ((s.curChar, s.curLast) :: queue) := by
  simp only [State.marksLeft, h]

/-- While a record is under way its events are owed first. -/
theorem marksLeft_of_inRecord {s : State} (h : s.inRecord) (queue : List (Byte × Bool)) (modes : σ) :
    s.marksLeft ask queue modes = s.eventsFromNow.1.map .event ++ marksAfter ask s.cfg s.curLast
      ⟨s.eventsFromNow.2.1, s.eventsFromNow.2.2, s.skip, modes⟩ queue := by
  obtain h | h | h := h <;> simp only [State.marksLeft, h]

/-- In `DONE` the `done` pulse is owed first. -/
theorem marksLeft_of_done {s : State} (h : s.fsm = .done) (queue : List (Byte × Bool)) (modes : σ) :
    s.marksLeft ask queue modes = .done s.errMsg :: streamMarks ask s.cfg (.start modes) queue := by
  simp only [State.marksLeft, h]

/-- After a character its end is owed. -/
theorem marksLeft_of_ended {t : State} {last : Bool} (hf : t.fsm = if last then .done else .idle)
    (he : t.errMsg = t.skip) (queue : List (Byte × Bool)) (modes : σ) :
    t.marksLeft ask queue modes
      = marksAfter ask t.cfg last ⟨t.havePrev, t.prevWb, t.skip, modes⟩ queue := by
  cases last with
  | true => rw [marksLeft_of_done hf, he]; rfl
  | false => rw [marksLeft_of_idle hf]; rfl

/-- The register write leaves alone what is owed. -/
theorem marksLeft_edge {s u : State} {p : Inputs} (h : keepsMessage p = true)
    (queue : List (Byte × Bool)) (modes : σ) :
    (edge s p u).marksLeft ask queue modes = u.marksLeft ask queue modes := by
  simp only [State.marksLeft, eventsFromNow_edge h]
  rw [edge_of_keepsMessage h]
  simp

/-- The register write leaves the waiting character alone. -/
theorem heldInputs_edge {s u : State} {p : Inputs} (h : keepsMessage p = true) :
    (edge s p u).heldInputs = u.heldInputs := by
  rw [edge_of_keepsMessage h]
  simp [State.heldInputs]

/-- A character transferred waits behind none (`44_host_ops.md` R202, R203). -/
theorem heldInputs_beforeAction (s : State) (p : Inputs) :
    (beforeAction s p).heldInputs = s.heldInputs ++ newInputs s p := by
  cases ht : transfers s p with
  | true =>
    have hfree : s.holdValid = false := by
      simp only [transfers, inReady, Bool.and_eq_true, Bool.not_eq_true'] at ht
      exact ht.2.1
    simp [State.heldInputs, newInputs, beforeAction, transfer, ht, hfree]
  | false => simp [State.heldInputs, newInputs, beforeAction, transfer, ht]

/-- A core that holds a character takes no other one (R202). -/
theorem newInputs_of_holdValid {s : State} (h : s.holdValid = true) (p : Inputs) :
    newInputs s p = [] := by
  simp [newInputs, transfers, inReady, h]

/-- No state action but those of `IDLE` touches the waiting character. -/
theorem ActionCase.heldInputs {tick : Bool} {s t u : State} (h : ActionCase tick s t u)
    (hi : s.fsm ≠ .idle) : u.heldInputs = t.heldInputs := by
  cases h with
  | wait hf | drop hf | take hf => exact absurd hf hi
  | unknown | count => simp [State.heldInputs]
  | _ => rfl

/-! ### What a cycle pays -/

/-- The failed lookup of a cycle, with the mode it meets. -/
def State.failedLookup (s : State) : List (Byte × Mode) :=
  if unkSetNow s then [(s.curChar, Mode.ofLenient s.lenient)] else []

/-- The marks of a cycle. -/
def State.marksNow (s : State) : List Mark :=
  s.strobedEvents.map .event ++ if s.fsm = .done then [.done s.errMsg] else []

/-- The input trace of one cycle. -/
theorem cycleTraces_inputs (s t : State) : (cycleTraces s t).inputs = newInputs s s.pins := rfl

/-- The failed lookups of one cycle. -/
theorem cycleTraces_failures (s t : State) : (cycleTraces s t).failures = s.failedLookup := rfl

/-- The interleaved trace of one cycle. -/
theorem cycleTraces_marks_eq (s t : State) : (cycleTraces s t).marks = s.marksNow := by
  cases hstb : s.evStb <;> simp [cycleTraces, outputs, State.marksNow, State.strobedEvents, hstb]

/-- Outside `SCAN` no lookup fails. -/
theorem failedLookup_of_not_scan {s : State} (h : s.fsm ≠ .scan) : s.failedLookup = [] := by
  simp [State.failedLookup, unkSetNow, h]

/-- A search that is not at the sentinel has not failed. -/
theorem failedLookup_of_not_sentinel {s : State}
    (h : s.cfg.charRom.read s.idx.toNat ≠ some s.cfg.sentinel) : s.failedLookup = [] := by
  simp [State.failedLookup, unkSetNow, atSentinel, h]

/-- A search at the sentinel fails. -/
theorem failedLookup_of_sentinel {s : State} (hf : s.fsm = .scan)
    (h : s.cfg.charRom.read s.idx.toNat = some s.cfg.sentinel) :
    s.failedLookup = [(s.curChar, Mode.ofLenient s.lenient)] := by
  simp [State.failedLookup, (unkSetNow_iff s).2 ⟨hf, h⟩]

/-- Outside the states that time an event and `DONE` a cycle has no marks. -/
theorem Inv.marksNow_eq_nil {s : State} (h : Inv s) (hg : s.fsm ≠ .tGap) (ht : s.fsm ≠ .tSym)
    (hd : s.fsm ≠ .done) : s.marksNow = [] := by
  simp [State.marksNow, State.strobedEvents, h.evStb_false hg ht, hd]

/-- A search that has reached the sentinel has met no entry with its code. -/
theorem MessageInv.unknown_of_sentinel {s : State} (h : MessageInv s) (hinv : Inv s)
    (hf : s.fsm = .scan) (hr : s.cfg.charRom.read s.idx.toNat = some s.cfg.sentinel) :
    known s.cfg s.curChar = false := by
  have ha := hinv.aligned_of_scan hf
  have hidx : s.idx.toNat = s.cfg.nChars := (aligned_sentinel_iff ha hinv.idxBound).1 hr
  rw [known_eq_false_iff ha, h.curNormal hf]
  exact fun j hj => h.passed hf j (hidx ▸ hj)

/-- A search that matches has found the character's record. -/
theorem MessageInv.encodeChar_of_match {s : State} {w : Word16} (h : MessageInv s) (hinv : Inv s)
    (hf : s.fsm = .scan) (hr : s.cfg.charRom.read s.idx.toNat ≠ some s.cfg.sentinel)
    (hc : s.cfg.charRom.read s.idx.toNat = some s.curChar) (hw : recWord s.cfg s.idx.toNat = some w) :
    encodeChar s.cfg s.curChar = .ok (unpack w) := by
  have ha := hinv.aligned_of_scan hf
  have hne : s.idx.toNat ≠ s.cfg.nChars := fun hidx =>
    hr ((aligned_sentinel_iff ha hinv.idxBound).2 hidx)
  have hfirst : FirstMatch s.cfg (normalize s.curChar) s.idx.toNat := by
    rw [h.curNormal hf]
    exact ⟨lt_of_le_of_ne hinv.idxBound hne, hc, h.passed hf⟩
  exact encodeChar_of_lookup (by simp [lookup, indexOf_of_firstMatch ha hfirst, hw])

/-- The strict mode is the one without `CTRL.LENIENT` (`10_state.md` R41). -/
theorem ofLenient_eq_strict (lenient : Bool) :
    decide (Mode.ofLenient lenient = .strict) = !lenient := by
  cases lenient <;> rfl

/-- `IDLE` takes the waiting character, or discards it with its failed message. -/
theorem ActionCase.marksLeft_idle {s u : State} {p : Inputs} (hf : s.fsm = .idle)
    (hm : MessageInv s) (hu : ActionCase p.tick s (beforeAction s p) u)
    (inputs : List (Byte × Bool)) (modes : σ) :
    s.marksLeft ask (s.heldInputs ++ (newInputs s p ++ inputs)) modes
      = u.marksLeft ask (u.heldInputs ++ inputs) modes := by
  rw [marksLeft_of_idle hf]
  cases hu with
  | wait =>
    rw [marksLeft_of_idle (by simpa using hf), heldInputs_beforeAction, List.append_assoc]
    simp
  | drop _ hv hs =>
    rw [marksLeft_of_ended (last := s.holdLast) rfl (by simpa using hm.errIsSkip),
      newInputs_of_holdValid hv, State.heldInputs, if_pos hv, List.singleton_append, streamMarks_cons,
      takeChar_of_failed hs]
    simp [State.heldInputs]
  | take _ hv hs =>
    rw [marksLeft_of_scan rfl, newInputs_of_holdValid hv, State.heldInputs, if_pos hv,
      List.singleton_append, streamMarks_cons, streamMarks_cons, takeChar_normalize]
    simp [State.heldInputs]
  | unknown hc | found w hc | miss hc | endChar hc | loadGap hc | loadSym e hc | count hc | expire hc
  | close hc => simp [hf] at hc

/-- `SCAN` compares; at its end the character is known to be in the tables or not. -/
theorem ActionCase.marksLeft_scan {s u : State} {p : Inputs} (hf : s.fsm = .scan) (h : Inv s)
    (hm : MessageInv s) (hu : ActionCase p.tick s (beforeAction s p) u)
    {modes modes' : σ} (hask : Answers ask s.failedLookup modes modes')
    (inputs : List (Byte × Bool)) :
    s.marksLeft ask (s.heldInputs ++ (newInputs s p ++ inputs)) modes
      = u.marksLeft ask (u.heldInputs ++ inputs) modes' := by
  have hskip : s.skip = false := hm.skip_false (by simp [hf]) (by simp [hf])
  rw [marksLeft_of_scan hf, hu.heldInputs (by simp [hf]), heldInputs_beforeAction, List.append_assoc]
  cases hu with
  | unknown _ hr =>
    rw [failedLookup_of_sentinel hf hr] at hask
    obtain ⟨rfl, hmode⟩ := hask
    obtain ⟨hfail, herr⟩ := takeUnknownCharacter_failed s (beforeAction s p)
    rw [marksLeft_of_ended (last := s.curLast) (by simp) (by simp [hfail, herr, hm.errIsSkip]),
      streamMarks_cons, takeChar_of_unknown (h.aligned_of_scan hf) hskip
        (hm.unknown_of_sentinel h hf hr), hm.curNormal hf, hmode, ofLenient_eq_strict, hfail]
    simp [hskip]
  | found w _ hr hc hw =>
    rw [failedLookup_of_not_sentinel hr] at hask
    obtain rfl := hask
    rw [marksLeft_of_inRecord (.inl rfl), streamMarks_cons,
      takeChar_of_ok hskip (hm.encodeChar_of_match h hf hr hc hw)]
    rw [eventsFromNow_of_no_strobe (by simp), eventsLeft_of_unpack rfl]
    simp [hskip, unpack, SLOTS]
  | miss _ hr =>
    rw [failedLookup_of_not_sentinel hr] at hask
    obtain rfl := hask
    rw [marksLeft_of_scan (by simpa using hf)]
    simp
  | wait hc | drop hc | take hc | endChar hc | loadGap hc | loadSym e hc | count hc | expire hc
  | close hc => simp [hf] at hc

/-- After a cycle of a record under way the rest of its events is owed, and then the end of the
character. -/
theorem marksLeft_of_record {t : State} {last : Bool} (he : t.errMsg = t.skip)
    (ht : (t.inRecord ∧ t.curLast = last) ∨ (t.evStb = false ∧ t.fsm = if last then .done else .idle))
    (queue : List (Byte × Bool)) (modes : σ) :
    t.marksLeft ask queue modes = t.eventsFromNow.1.map .event ++ marksAfter ask t.cfg last
      ⟨t.eventsFromNow.2.1, t.eventsFromNow.2.2, t.skip, modes⟩ queue := by
  obtain ⟨hw, rfl⟩ | ⟨hstb, hf⟩ := ht
  · exact marksLeft_of_inRecord hw queue modes
  · have hended : t.fsm = .idle ∨ t.fsm = .done := hf ▸ afterCharacter_cases last
    rw [marksLeft_of_ended hf he, eventsFromNow_of_no_strobe hstb, eventsLeft_of_ended hended]
    rfl

/-- A record under way pays the event whose strobe stands. -/
theorem ActionCase.marksLeft_inRecord {s u : State} {p : Inputs} (hw : s.inRecord) (h : Inv s)
    (hm : MessageInv s) (hu : ActionCase p.tick s (beforeAction s p) u)
    (inputs : List (Byte × Bool)) (modes : σ) :
    s.marksLeft ask (s.heldInputs ++ (newInputs s p ++ inputs)) modes
      = s.strobedEvents.map .event ++ u.marksLeft ask (u.heldInputs ++ inputs) modes := by
  obtain ⟨⟨hcfg, hlast, hskip, herr⟩, hnext⟩ := hu.inRecord_frame hw (beforeAction_fsm s p)
  have hended := marksLeft_of_record (ask := ask) (t := u) (last := s.curLast)
    (by simpa [hskip, herr] using hm.errIsSkip)
    (hnext.imp (fun h => ⟨h, by simpa using hlast⟩) (fun h => ⟨by simpa using h.1, h.2⟩))
    (u.heldInputs ++ inputs) modes
  rw [hended, marksLeft_of_inRecord hw, hu.heldInputs hw.ne.1, heldInputs_beforeAction,
    hu.eventsFromNow h hw, List.append_assoc]
  simp [State.eventsFromNow, prependEvents, hcfg, hskip]

/-- `DONE` pays the `done` pulse. -/
theorem ActionCase.marksLeft_done {s u : State} {p : Inputs} (hf : s.fsm = .done)
    (hu : ActionCase p.tick s (beforeAction s p) u) (inputs : List (Byte × Bool)) (modes : σ) :
    s.marksLeft ask (s.heldInputs ++ (newInputs s p ++ inputs)) modes
      = .done s.errMsg :: u.marksLeft ask (u.heldInputs ++ inputs) modes := by
  rw [marksLeft_of_done hf, hu.heldInputs (by simp [hf]), heldInputs_beforeAction, List.append_assoc]
  cases hu with
  | close =>
    rw [marksLeft_of_idle rfl]
    simp [MessageState.start]
  | wait hc | drop hc | take hc | unknown hc | found w hc | miss hc | endChar hc | loadGap hc
  | loadSym e hc | count hc | expire hc => simp [hf] at hc

/-- The control state, with those of a record under way as one. -/
theorem State.fsm_cases (s : State) : s.fsm = .idle ∨ s.fsm = .scan ∨ s.inRecord ∨ s.fsm = .done := by
  unfold State.inRecord
  cases s.fsm <;> simp

/-- Each cycle pays its own marks of those that the state owes. -/
theorem ActionCase.marksLeft {s u : State} {p : Inputs} (h : Inv s) (hm : MessageInv s)
    (hu : ActionCase p.tick s (beforeAction s p) u) {modes modes' : σ}
    (hask : Answers ask s.failedLookup modes modes') (inputs : List (Byte × Bool)) :
    s.marksLeft ask (s.heldInputs ++ (newInputs s p ++ inputs)) modes
      = s.marksNow ++ u.marksLeft ask (u.heldInputs ++ inputs) modes' := by
  have hsame (hf : s.fsm ≠ .scan) : modes' = modes := by
    rwa [failedLookup_of_not_scan hf] at hask
  obtain hf | hf | hw | hf := s.fsm_cases
  · rw [h.marksNow_eq_nil (by simp [hf]) (by simp [hf]) (by simp [hf]), hsame (by simp [hf])]
    exact hu.marksLeft_idle hf hm inputs modes
  · rw [h.marksNow_eq_nil (by simp [hf]) (by simp [hf]) (by simp [hf])]
    exact hu.marksLeft_scan hf h hm hask inputs
  · rw [hu.marksLeft_inRecord hw h hm, hsame hw.ne.2.1, State.marksNow, if_neg hw.ne.2.2,
      List.append_nil]
  · have hstb : s.evStb = false := h.evStb_false (by simp [hf]) (by simp [hf])
    rw [hu.marksLeft_done hf, hsame (by simp [hf]), State.marksNow, if_pos hf, State.strobedEvents,
      hstb]
    rfl

/-- One cycle without reset and ABORT: the invariants go on, and the state pays the cycle's marks. -/
theorem step_marksLeft {s t : State} (h : Inv s) (hm : MessageInv s)
    (hk : keepsMessage s.pins = true) (hst : step s = .next t) :
    MessageInv t ∧ ∀ {modes modes' : σ}, Answers ask (cycleTraces s t).failures modes modes' →
      ∀ inputs, s.marksLeft ask (s.heldInputs ++ ((cycleTraces s t).inputs ++ inputs)) modes
        = (cycleTraces s t).marks ++ t.marksLeft ask (t.heldInputs ++ inputs) modes' := by
  obtain ⟨u, hu, rfl⟩ := step_cases hst ((keepsMessage_iff s.pins).1 hk).1
  refine ⟨(hm.action hu).edge hk, fun hask inputs => ?_⟩
  rw [cycleTraces_failures] at hask
  rw [cycleTraces_inputs, cycleTraces_marks_eq, marksLeft_edge hk, heldInputs_edge hk]
  exact hu.marksLeft h hm hask inputs

/-! ### Runs -/

/-- Under the invariants a run never stops (`45_cycle_fsm.md` R250). -/
theorem exists_runTraces {s : State} (h : Inv s) (n : Nat) : ∃ t tr, runTraces n s = some (t, tr) := by
  induction n generalizing s with
  | zero => exact ⟨s, .none, rfl⟩
  | succ n ih =>
    obtain ⟨v, hst⟩ := h.exists_clock s.pins
    have hst : step s = .next v := (step_eq_cycle s).trans hst
    obtain ⟨t, later, hrun⟩ := ih (stepKeepsTheInvariants s v h hst)
    exact ⟨t, _, (runTraces_succ_iff n s t _).2 ⟨v, later, hst, hrun, rfl⟩⟩

/-- A run without reset and ABORT pays its marks of those that its first state owes. -/
theorem run_marksLeft {n : Nat} {s t : State} {tr : Traces} (h : Inv s) (hm : MessageInv s)
    (hk : ∀ k, k < n → keepsMessage (s.pinsAt k) = true) (hrun : runTraces n s = some (t, tr))
    {modes modes' : σ} (hask : Answers ask tr.failures modes modes') :
    s.marksLeft ask (s.heldInputs ++ tr.inputs) modes
      = tr.marks ++ t.marksLeft ask t.heldInputs modes' := by
  induction n generalizing s tr modes with
  | zero =>
    cases hrun
    obtain rfl := hask
    simp [Traces.none]
  | succ n ih =>
    obtain ⟨v, later, hst, hrest, rfl⟩ := (runTraces_succ_iff n s t tr).1 hrun
    obtain ⟨m, hnow, hlater⟩ := answers_of_append hask
    obtain ⟨hmv, hstep⟩ := step_marksLeft (ask := ask) h hm
      (pinsAt_zero s ▸ hk 0 (Nat.zero_lt_succ n)) hst
    have hrest := ih (stepKeepsTheInvariants s v h hst) hmv
      (fun k hlt => by rw [pinsAt_of_step hst]; exact hk (k + 1) (by omega)) hrest hlater
    rw [append_inputs, hstep hnow, hrest, append_marks, List.append_assoc]

/-- An idle core that holds nothing owes nothing. -/
theorem marksLeft_of_quiescent {t : State} (h : t.quiescent = true) (modes : σ) :
    t.marksLeft ask t.heldInputs modes = [] := by
  obtain ⟨hf, hv⟩ := (quiescent_iff t).1 h
  rw [marksLeft_of_idle hf, State.heldInputs, hv]
  rfl

/-- An idle core that holds nothing and has no open message owes the marks of the messages to come. -/
theorem marksLeft_of_no_message {s : State} (ha : tableAligned s.cfg = true) (hq : s.quiescent = true)
    (hn : s.noMessage = true) (inputs : List (Byte × Bool)) (modes : σ) :
    s.marksLeft ask (s.heldInputs ++ inputs) modes
      = messagesMarks ask s.cfg (messagesFrom [] inputs) modes := by
  obtain ⟨hf, hv⟩ := (quiescent_iff s).1 hq
  obtain ⟨hprev, hwb, hskip, -⟩ := (noMessage_iff s).1 hn
  rw [marksLeft_of_idle hf, State.heldInputs, hv, hprev, hwb, hskip]
  exact streamMarks_eq_messagesMarks ha inputs modes

/-- A run from a core without an open message: its marks, and what its last state owes, are the marks of
its messages. -/
theorem run_marks {n : Nat} {s t : State} {tr : Traces} (h : Inv s) (hfatal : s.fatal = false)
    (hq : s.quiescent = true) (hn : s.noMessage = true)
    (hk : ∀ k, k < n → keepsMessage (s.pinsAt k) = true) (hrun : runTraces n s = some (t, tr))
    {modes modes' : σ} (hask : Answers ask tr.failures modes modes') :
    messagesMarks ask s.cfg (messagesFrom [] tr.inputs) modes
      = tr.marks ++ t.marksLeft ask t.heldInputs modes' := by
  rw [← marksLeft_of_no_message (h.aligned hfatal) hq hn]
  exact run_marksLeft h (messageInv_of_noMessage ((quiescent_iff s).1 hq).1 hn) hk hrun hask

end Stream

/-- The interleaved trace of a run gives its event trace and its done trace. -/
theorem runTraces_marks {n : Nat} {s t : State} {tr : Traces} (hrun : runTraces n s = some (t, tr)) :
    tr.events = Mark.events tr.marks ∧ tr.dones = Mark.dones tr.marks := by
  induction n generalizing s tr with
  | zero =>
    cases hrun
    exact ⟨rfl, rfl⟩
  | succ n ih =>
    obtain ⟨v, later, -, hrest, rfl⟩ := (runTraces_succ_iff n s t tr).1 hrun
    obtain ⟨hevents, hdones⟩ := ih hrest
    obtain ⟨hnowEvents, hnowDones⟩ := cycleTraces_marks s v
    rw [append_marks, Mark.events_append, Mark.dones_append, append_events, append_dones, hevents,
      hdones, hnowEvents, hnowDones]
    exact ⟨rfl, rfl⟩

/-- Settles O59: with the failed lookups of the run as the source of the modes, the core owes the marks
of the messages at its start, has paid the run's marks at its end, and owes none when it is idle and
empty. -/
theorem coreFollowsTheModeOfEachFailedLookup : Obligations.CoreFollowsTheModeOfEachFailedLookup := by
  intro n s h hfatal hq hn hk
  obtain ⟨t, tr, hrun⟩ := exists_runTraces h n
  have hmarks := run_marks h hfatal hq hn hk hrun (answers_listedMode tr.failures)
  rw [messagesMarks_listedMode, ← resolvedMarks] at hmarks
  obtain ⟨hevents, hdones⟩ := runTraces_marks hrun
  refine ⟨t, tr, hrun, hevents, hdones, ⟨_, hmarks.symm⟩, fun ht => ?_⟩
  rw [hmarks, marksLeft_of_quiescent ht, List.append_nil]

/-- A cycle that does not write CTRL keeps the mode. -/
theorem step_keeps_lenient {s t : State} (hst : step s = .next t) (hr : s.pins.rst = false)
    (hw : writesReg s.pins 1#2 = false) : t.lenient = s.lenient := by
  have hno : ¬ (s.pins.regWe = true ∧ s.pins.regAddr = 1#2) := by simpa [writesReg] using hw
  rw [(registersHaveOneWriter s t hst hr).2.1, if_neg hno]

/-- Without reset and writes of CTRL every failed lookup of a run meets the mode of its first state. -/
theorem runTraces_failures_mode {n : Nat} {s t : State} {tr : Traces}
    (hk : ∀ k, k < n → (s.pinsAt k).rst = false ∧ writesReg (s.pinsAt k) 1#2 = false)
    (hrun : runTraces n s = some (t, tr)) :
    ∀ f ∈ tr.failures, f.2 = Mode.ofLenient s.lenient := by
  induction n generalizing s tr with
  | zero =>
    cases hrun
    exact nofun
  | succ n ih =>
    obtain ⟨v, later, hst, hrest, rfl⟩ := (runTraces_succ_iff n s t tr).1 hrun
    obtain ⟨hr, hw⟩ := hk 0 (Nat.zero_lt_succ n)
    have hlater := ih (fun k hlt => by rw [pinsAt_of_step hst]; exact hk (k + 1) (by omega)) hrest
    rw [step_keeps_lenient hst hr hw] at hlater
    intro f hf
    obtain hf | hf := List.mem_append.1 hf
    · rw [cycleTraces_failures, State.failedLookup] at hf
      split at hf
      · rw [List.mem_singleton.1 hf]
      · cases hf
    · exact hlater f hf

/-- A cycle without reset and writes of CTRL keeps the message. -/
theorem keepsMessage_of_no_ctrl {p : Inputs} (hr : p.rst = false) (hw : writesReg p 1#2 = false) :
    keepsMessage p = true := by
  simp [keepsMessage, aborts, hr, hw]

/-- Settles O58: with a constant source the core owes the expected marks at its start, and none when it
is idle and empty again. -/
theorem coreRefinesTheFunctionalLayer : Obligations.CoreRefinesTheFunctionalLayer := by
  intro n s h hfatal hq hn hk
  obtain ⟨t, tr, hrun⟩ := exists_runTraces h n
  refine ⟨t, tr, hrun, fun ht => ?_⟩
  have hmarks := run_marks h hfatal hq hn
    (fun k hlt => keepsMessage_of_no_ctrl (hk k hlt).1 (hk k hlt).2) hrun
    (answers_constantMode (runTraces_failures_mode hk hrun))
  rw [messagesMarks_constantMode, ← expectedMarks, marksLeft_of_quiescent ht, List.append_nil] at hmarks
  obtain ⟨hevents, hdones⟩ := runTraces_marks hrun
  exact ⟨by rw [hevents, ← hmarks, events_expectedMarks], by rw [hdones, ← hmarks, dones_expectedMarks],
    hmarks.symm⟩

end Sys2Proof.Machine
end

section
/-! PROOFS. `45_cycle_fsm.md` R261 and R262 (e): on-events are never adjacent, and the tick trace is the
units times `UNIT`. -/

namespace Sys2Proof.Machine

open Claims

/-! ### On-events -/

/-- One of two adjacent events is off. -/
def NotBothOn (a b : Event) : Prop := ¬ (a.on = true ∧ b.on = true)

/-- The event of a WORD_BREAK is off (`43_timing.md` R170). -/
theorem off_of_wordBreak {f : Symbol} {e : Event} (he : eventOf f = [e]) (hf : f = .wordBreak) :
    e.on = false := by
  subst hf
  cases he
  rfl

/-- The tagged symbols of groups without TERMINATOR are none. -/
theorem tagged_ne_terminator {groups : List Group} (h : ∀ g ∈ groups, Symbol.terminator ∉ g) :
    ∀ c ∈ tagged groups, c.2 ≠ .terminator := by
  intro c hc ht
  have hflat : c.2 ∈ flattenGroups groups := by
    rw [← taggedFrom_symbols 0 groups]
    exact List.mem_map_of_mem hc
  obtain ⟨g, hg, hf⟩ := List.mem_flatten.1 hflat
  exact h g hg (ht ▸ hf)

/-- A symbol's event and those that the gap rule gives the symbols after it are never both on: a gap
stands between two symbols, or one of them is a WORD_BREAK. -/
theorem isChain_gapRule (wb : Bool) (a : Nat × Symbol) (l : List (Nat × Symbol))
    (ha : a.2 ≠ .terminator) (hl : ∀ b ∈ l, b.2 ≠ .terminator) :
    (eventOf a.2 ++ gapRule wb (some a) l).IsChain NotBothOn := by
  induction l generalizing a with
  | nil =>
    obtain ⟨e, -, he⟩ := exists_eventOf ha
    rw [gapRule, List.append_nil, he]
    exact .singleton e
  | cons b rest ih =>
    obtain ⟨hb, hrest⟩ := List.forall_mem_cons.1 hl
    obtain ⟨e, -, he⟩ := exists_eventOf ha
    obtain ⟨d, -, hd⟩ := exists_eventOf hb
    have hlater := ih b hb hrest
    rw [hd] at hlater
    rw [gapRule, he, hd]
    split
    next habsorb =>
      have hoff : NotBothOn e d := by
        rintro ⟨hae, hbd⟩
        obtain hw | hw := habsorb.2
        · exact Bool.false_ne_true ((off_of_wordBreak he hw).symm.trans hae)
        · exact Bool.false_ne_true ((off_of_wordBreak hd hw).symm.trans hbd)
      exact .cons_cons hoff hlater
    next => exact .cons_cons (by simp [NotBothOn]) (.cons_cons (by simp [NotBothOn]) hlater)

/-- The events of a message are never both on next to each other. -/
theorem isChain_toEvents (wb : Bool) {groups : List Group} (h : ∀ g ∈ groups, Symbol.terminator ∉ g) :
    (toEvents wb groups).IsChain NotBothOn := by
  have hsymbols := tagged_ne_terminator h
  rw [toEvents_eq_gapRule]
  cases htag : tagged groups with
  | nil => exact .nil
  | cons c rest =>
    rw [htag] at hsymbols
    obtain ⟨hc, hrest⟩ := List.forall_mem_cons.1 hsymbols
    exact isChain_gapRule wb c rest hc hrest

/-- Settles O18, from the gap rule. -/
theorem onEventsAreNeverAdjacent : Obligations.OnEventsAreNeverAdjacent := by
  intro wb groups hterm k a b ha hb
  obtain ⟨_, rfl⟩ := List.getElem?_eq_some_iff.1 ha
  obtain ⟨hlt, rfl⟩ := List.getElem?_eq_some_iff.1 hb
  exact List.isChain_iff_getElem.1 (isChain_toEvents wb hterm) k hlt

/-! ### The tick trace -/

/-- `units` is the `UNIT` of the cycle that loaded the event whose strobe stands, if one does. -/
def StrobeLoaded (s : State) (units : List Word16) : Prop :=
  units.length = s.strobedEvents.length ∧
    ∀ u ∈ units, s.evTicks.toNat = s.evUnits.toNat * u.toNat

/-- Without a strobe nothing has been loaded. -/
theorem strobeLoaded_nil {s : State} (h : s.evStb = false) : StrobeLoaded s [] := by
  simp [StrobeLoaded, State.strobedEvents, h]

/-- A strobe that stands after a cycle is the one of an event loaded in it with its `UNIT`, whatever the
host did (`43_timing.md` R181). -/
theorem step_evTicks {s t : State} (hst : step s = .next t) (hstb : t.evStb = true) :
    t.evTicks.toNat = t.evUnits.toNat * s.unit.toNat := by
  cases hr : s.pins.rst with
  | true =>
    obtain rfl := step_of_reset hst hr
    simp at hstb
  | false =>
    obtain ⟨u, hu, rfl⟩ := step_cases hst hr
    cases ha : aborts s.pins with
    | true => simp [edge, afterAction_of_abort ha] at hstb
    | false =>
      rw [edge, afterAction_of_not_abort ha] at hstb ⊢
      obtain ⟨hno, -⟩ | ⟨-, hticks, -⟩ := hu.strobe (beforeAction_evStb s s.pins)
      · simp [hno] at hstb
      · simpa using hticks

/-- The tick trace of one cycle is the duration of the event whose strobe stands in it (R260). -/
theorem cycleTraces_ticks (s t : State) :
    (cycleTraces s t).ticks = if s.evStb then [s.evTicks] else [] := rfl

/-- The tick trace of one cycle, where `units` is the `UNIT` of the event whose strobe stands. -/
theorem StrobeLoaded.ticks {s : State} {units : List Word16} (h : StrobeLoaded s units) (t : State) :
    (cycleTraces s t).ticks.length = s.strobedEvents.length
      ∧ (cycleTraces s t).ticks.map BitVec.toNat
          = List.zipWith (fun e u => e.units.toNat * u.toNat) s.strobedEvents units := by
  obtain ⟨hlen, hvalue⟩ := h
  rw [cycleTraces_ticks]
  unfold State.strobedEvents at hlen ⊢
  cases hstb : s.evStb with
  | true =>
    obtain ⟨u, rfl⟩ := List.length_eq_one_iff.1 (by simpa [hstb] using hlen)
    simpa using hvalue
  | false => simp

/-- A cycle notes its `UNIT` exactly when it loads an event. -/
theorem step_strobeLoaded {s t : State} (hst : step s = .next t) :
    StrobeLoaded t (cycleTraces s t).loadUnits := by
  cases hstb : t.evStb with
  | true => simpa [StrobeLoaded, State.strobedEvents, cycleTraces, hstb] using step_evTicks hst hstb
  | false => simpa [cycleTraces, hstb] using strobeLoaded_nil hstb

/-- The tick trace of a run, where `units` is the `UNIT` of the event whose strobe stands at its start. -/
theorem run_ticks {n : Nat} {s t : State} {tr : Traces} {units : List Word16}
    (hload : StrobeLoaded s units) (hrun : runTraces n s = some (t, tr)) :
    tr.ticks.length = tr.events.length
      ∧ (units ++ tr.loadUnits).length = tr.events.length + t.strobedEvents.length
      ∧ tr.ticks.map BitVec.toNat
          = List.zipWith (fun e u => e.units.toNat * u.toNat) tr.events (units ++ tr.loadUnits) := by
  induction n generalizing s tr units with
  | zero =>
    cases hrun
    exact ⟨rfl, by simpa [Traces.none] using hload.1, by simp [Traces.none]⟩
  | succ n ih =>
    obtain ⟨v, later, hst, hrest, rfl⟩ := (runTraces_succ_iff n s t tr).1 hrun
    obtain ⟨hticks, hloads, hvalues⟩ := ih (step_strobeLoaded hst) hrest
    obtain ⟨hnowTicks, hnowValues⟩ := hload.ticks v
    rw [append_ticks, append_events, append_loadUnits, cycleTraces_events]
    refine ⟨?_, ?_, ?_⟩
    · rw [List.length_append, List.length_append, hnowTicks, hticks]
    · rw [List.length_append, hloads, hload.1, List.length_append, Nat.add_assoc]
    · rw [List.map_append, List.zipWith_append hload.1.symm, hvalues, hnowValues]

/-- Settles O60: every strobe follows a load, and reset and ABORT take the strobe back. -/
theorem tickTraceIsUnitsTimesUnit : Obligations.TickTraceIsUnitsTimesUnit := by
  intro n s h hstb
  obtain ⟨t, tr, hrun⟩ := exists_runTraces h n
  obtain ⟨hticks, hloads, hvalues⟩ := run_ticks (strobeLoaded_nil hstb) hrun
  refine ⟨t, tr, hrun, hticks, ?_, hvalues⟩
  rw [List.nil_append] at hloads
  rw [hloads, State.strobedEvents]
  cases t.evStb <;> rfl

end Sys2Proof.Machine
end

section
/-! PROOFS. `46_char_table.md` R400 to R441: the entries of the shipped tables row by row, the records
they hold, and the meaning of each entry's code in `SCAN`. -/

namespace Sys2Proof.Machine

open Claims

/-! ### The entries of the character table -/

/-- The rows of the 40 characters are rows of the table with the sentinel. -/
theorem mem_codeRows_of_mem_characterTable {r : Instr × Byte × Byte × Nat × Word16}
    (hr : r ∈ characterTable) : r ∈ codeRows :=
  List.mem_cons_of_mem _ hr

/-- The ordinal of a character is the first match of its normalised code (`41_char_index.md` R132). -/
theorem firstMatch_characterTable {r : Instr × Byte × Byte × Nat × Word16} (hr : r ∈ characterTable) :
    FirstMatch specConfig r.2.2.1 r.2.2.2.1 := by
  rw [← normalize_codeRows r (mem_codeRows_of_mem_characterTable hr)]
  exact (indexOf_eq_ok_iff specConfig_aligned).1 (search_characterTable r hr).1

/-- A row's ordinal is at most the sentinel's index, and no entry before it has the row's normalised code. -/
theorem ordinal_le_and_read_ne_before {r : Instr × Byte × Byte × Nat × Word16} (hr : r ∈ codeRows) :
    r.2.2.2.1 ≤ specConfig.nChars
      ∧ ∀ j, j < r.2.2.2.1 → specConfig.charRom.read j ≠ some r.2.2.1 := by
  obtain rfl | hchar := List.mem_cons.1 hr
  · exact ⟨le_rfl, absentCode_sentinel specConfig_aligned⟩
  · have hm := firstMatch_characterTable hchar
    exact ⟨hm.ordinal.le, hm.first⟩

/-! ### The records -/

/-- The record that `Lookup` answers stands at the ordinal that `IndexOf` answers (R138). -/
theorem recWord_of_lookup {cfg : Config} {c : Byte} {i : Nat} {w : Word16}
    (hi : indexOf cfg c = .ok i) (hw : lookup cfg c = .ok w) : recWord cfg i = some w := by
  rw [lookup, hi] at hw
  cases h : recWord cfg i with
  | none => simp [h] at hw
  | some v => simpa [h] using hw

/-- The record at the ordinal of a character is the row's record word. -/
theorem recWord_characterTable {r : Instr × Byte × Byte × Nat × Word16} (hr : r ∈ characterTable) :
    recWord specConfig r.2.2.2.1 = some r.2.2.2.2 := by
  obtain ⟨hi, hw⟩ := search_characterTable r hr
  exact recWord_of_lookup hi hw

/-- Every ordinal is the ordinal of a character. -/
theorem exists_row_of_ordinal : ∀ i, i < 40 → ∃ r ∈ characterTable, r.2.2.2.1 = i := by decide

/-- A record with fewer than eight symbols is well formed: the slot after them holds a TERMINATOR. -/
theorem recordWellFormed_of_unpack_length {w : Word16} (h : (unpack w).length < 8) :
    recordWellFormed w = true := by
  have hstop := (leadingSlots_unpack w).stop h
  rw [Nat.zero_add] at hstop
  exact List.any_eq_true.2 ⟨_, List.mem_range.2 h, decide_eq_true hstop⟩

/-- The number of symbols of each record (`46_char_table.md` R441). -/
theorem unpack_length_characterTable : ∀ r ∈ characterTable,
    1 ≤ (unpack r.2.2.2.2).length ∧ (unpack r.2.2.2.2).length ≤ 6
      ∧ ((unpack r.2.2.2.2).length = 1 ↔ r.2.2.2.1 = 14 ∨ r.2.2.2.1 = 29 ∨ r.2.2.2.1 = 39)
      ∧ ((unpack r.2.2.2.2).length = 6 ↔ r.2.2.2.1 = 36 ∨ r.2.2.2.1 = 38) := by
  decide

/-- The unused slots and the second byte of each record. -/
theorem padding_characterTable : ∀ r ∈ characterTable,
    paddedWithTerminators r.2.2.2.2 = true
      ∧ (r.2.2.2.2.extractLsb' 0 8 = 0#8 ↔
          (10 ≤ r.2.2.2.1 ∧ r.2.2.2.1 ≤ 35) ∨ r.2.2.2.1 = 39) := by
  decide

/-- WORD_BREAK is the one symbol of the space and a symbol of no other character. -/
theorem wordBreak_characterTable : ∀ r ∈ characterTable,
    (Symbol.wordBreak ∈ unpack r.2.2.2.2 ↔ r.2.2.2.1 = 39)
      ∧ (r.2.2.2.1 = 39 → unpack r.2.2.2.2 = [.wordBreak]) := by
  decide

/-- Settles O13: every ordinal is that of a row, whose record word has the shape R441 gives; that it is
well formed follows from its length. -/
theorem specTablesAreWellFormed : Obligations.SpecTablesAreWellFormed := by
  refine ⟨specConfig_aligned, rfl, by decide, fun i hi => ?_⟩
  obtain ⟨r, hr, rfl⟩ := exists_row_of_ordinal i hi
  obtain ⟨hmin, hmax, hone, hsix⟩ := unpack_length_characterTable r hr
  obtain ⟨hpadded, hsecond⟩ := padding_characterTable r hr
  obtain ⟨hbreak, hspace⟩ := wordBreak_characterTable r hr
  exact ⟨r.2.2.2.2, recWord_characterTable hr, recordWellFormed_of_unpack_length (by omega), hpadded,
    hmin, hmax, hone, hsix, hbreak, hspace, hsecond⟩

/-! ### A character in `SCAN` -/

/-- The meaning of a character in `SCAN` is the step with its normalised code under search. -/
theorem exec_codeRow_of_scan {r : Instr × Byte × Byte × Nat × Word16} (hr : r ∈ codeRows) {s : State}
    (hf : s.fsm = .scan) : exec r.1 s = step { s with curChar := r.2.2.1 } := by
  rw [exec_eq_cycleOfWord_encode, encode_characterTable r hr, cycleOfWord, State.placeChar, if_pos hf,
    normalize_codeRows r hr, step_eq_cycle]

/-- The next index, as a number. -/
theorem idx_add_one (i : Idx) : i + 1#6 = BitVec.ofNat 6 (i.toNat + 1) := by
  rw [BitVec.ofNat_add, BitVec.ofNat_toNat, BitVec.setWidth_eq]

/-- A character in `SCAN` before its row's ordinal: the entry read is neither the sentinel nor a match,
so the search goes on (`45_cycle_fsm.md` R234). -/
theorem exec_codeRow_of_scan_miss {r : Instr × Byte × Byte × Nat × Word16} (hr : r ∈ codeRows)
    {s : State} (hcfg : s.cfg = specConfig) (hrst : s.pins.rst = false) (hf : s.fsm = .scan)
    (hlt : s.idx.toNat < r.2.2.2.1) :
    exec r.1 s = .next (edge { s with curChar := r.2.2.1 } s.pins
      { beforeAction { s with curChar := r.2.2.1 } s.pins with
        idx := BitVec.ofNat 6 (s.idx.toNat + 1) }) := by
  obtain ⟨hle, hfirst⟩ := ordinal_le_and_read_ne_before hr
  have hord : s.idx.toNat < specConfig.nChars := hlt.trans_le hle
  obtain ⟨c, hread⟩ := aligned_charRom_reads specConfig_aligned hord.le
  have hsentinel : c ≠ specConfig.sentinel := by
    rintro rfl
    exact absentCode_sentinel specConfig_aligned _ hord hread
  have hmiss : c ≠ r.2.2.1 := by
    rintro rfl
    exact hfirst _ hlt hread
  rw [← hcfg] at hread hsentinel
  obtain ⟨-, -, -, hnext⟩ := scanComparesOneEntry { s with curChar := r.2.2.1 } c
    (hcfg ▸ specConfig_supported) hrst hf hread
  rw [exec_codeRow_of_scan hr hf, ← idx_add_one]
  exact hnext hsentinel hmiss

/-- Settles O34: before its ordinal the row is a miss; there its code is the entry read, and its record
is loaded. -/
theorem characterInScanFindsItsRecord : Obligations.CharacterInScanFindsItsRecord := by
  intro r hr s hcfg hrst hf p
  have hrow := mem_codeRows_of_mem_characterTable hr
  refine ⟨exec_codeRow_of_scan_miss hrow hcfg hrst hf, fun hidx => ?_⟩
  have hm := firstMatch_characterTable hr
  have hw := recWord_characterTable hr
  have hsentinel : r.2.2.1 ≠ specConfig.sentinel := fun hc =>
    absentCode_sentinel specConfig_aligned _ hm.ordinal (hc ▸ hm.reads)
  have hread : p.cfg.charRom.read p.idx.toNat = some r.2.2.1 := by rw [hidx, hcfg]; exact hm.reads
  rw [← hcfg] at hsentinel
  rw [← hcfg, ← hidx] at hw
  obtain ⟨-, -, hfound, -⟩ := scanComparesOneEntry p _ (hcfg ▸ specConfig_supported) hrst hf hread
  rw [exec_codeRow_of_scan hrow hf, ← hidx, BitVec.ofNat_toNat, BitVec.setWidth_eq]
  exact hfound _ hsentinel rfl hw

/-- Settles O35: below index 40 the sentinel's row is a miss; at index 40 the sentinel is read, which is
UnknownCharacter in the mode of the message. -/
theorem sentinelValueIsUnknown : Obligations.SentinelValueIsUnknown := by
  intro s hcfg hrst hf p
  have hrow : (Instr.sentinel, 0x00#8, 0x00#8, 40, 0x0000#16) ∈ codeRows := List.mem_cons_self
  have hexec : exec .sentinel s = step p := exec_codeRow_of_scan hrow hf
  have hread (hidx : p.idx.toNat = 40) : p.cfg.charRom.read p.idx.toNat = some p.cfg.sentinel := by
    have haligned : tableAligned p.cfg = true := hcfg ▸ specConfig_aligned
    have hn : p.cfg.nChars = 40 := by rw [hcfg]; rfl
    exact (aligned_sentinel_iff haligned (hidx.trans hn.symm).le).2 (hidx.trans hn.symm)
  have hsearch (hidx : s.idx.toNat = 40) :=
    scanComparesOneEntry p _ (hcfg ▸ specConfig_supported) hrst hf (hread hidx)
  have hlast (hidx : s.idx.toNat = 40) : s.idx = 40#6 := BitVec.eq_of_toNat_eq hidx
  refine ⟨exec_codeRow_of_scan_miss hrow hcfg hrst hf, fun hidx hl => ?strict, fun hidx hl => ?lenient⟩
  case strict =>
    obtain ⟨hstrict, -⟩ := hsearch hidx
    rw [hexec, ← hlast hidx]
    exact hstrict rfl hl
  case lenient =>
    obtain ⟨-, hlenient, -⟩ := hsearch hidx
    rw [hexec, ← hlast hidx]
    exact hlenient rfl hl

end Sys2Proof.Machine
end

section
/-! PROOFS. `70_reset_and_hazards.md` R300 and `60_exceptions.md` R283: a reset cycle leaves the reset
values wherever a code word stands, and the fatal core does nothing until a reset. -/

namespace Sys2Proof.Machine

/-! ### The reset cycle of a code word -/

/-- Reset forgets a character at its place (`10_state.md` R48). -/
@[simp] theorem resetCore_placeChar (c : Byte) (s : State) :
    resetCore (s.placeChar c) = resetCore s := by
  unfold State.placeChar
  split <;> rfl

/-- Reset forgets a symbol at its place (`10_state.md` R48). -/
@[simp] theorem resetCore_placeSymbol (f : Symbol) (s : State) :
    resetCore (s.placeSymbol f) = resetCore s := rfl

/-- Putting a character at its place leaves the host's list alone. -/
@[simp] theorem placeChar_host (c : Byte) (s : State) : (s.placeChar c).host = s.host := by
  unfold State.placeChar
  split <;> rfl

/-- Putting a character at its place leaves the cycle number alone. -/
@[simp] theorem placeChar_now (c : Byte) (s : State) : (s.placeChar c).now = s.now := by
  unfold State.placeChar
  split <;> rfl

/-- The reset cycle of a word is the reset of the state itself, but for the output record: the word at
its place is forgotten, the word on a port is not looked at. -/
theorem cycleOfWord_of_reset {s : State} (hs : supported s.cfg = true) (hr : s.pins.rst = true)
    (w : CodeWord) :
    ∃ o, cycleOfWord w s = .next { advance s s.pins (resetCore s) with out := o } := by
  cases w with
  | sym2 c => exact ⟨_, clock_of_reset (s := s.placeSymbol (Symbol.ofCode c)) hs hr⟩
  | char8 c =>
    have hedge : cycle (s.placeChar c) = _ := clock_of_reset (by simpa using hs) (by simpa using hr)
    exact ⟨_, by rw [cycleOfWord, hedge, resetCore_placeChar, advance, placeChar_host, placeChar_now]; rfl⟩
  | charin9 w => exact ⟨_, clock_of_reset (p := putcPins _ _ s.pins) hs hr⟩
  | regw18 w => exact ⟨_, clock_of_reset (p := writePins _ _ s.pins) hs hr⟩
  | regr2 a => exact ⟨_, clock_of_reset (p := readPins a s.pins) hs hr⟩

/-- Settles O24: an instruction's meaning is the cycle of its encoded word. -/
theorem resetOverridesEveryInstruction : Obligations.ResetOverridesEveryInstruction := by
  intro i s hs hr
  rw [exec_eq_cycleOfWord_encode]
  exact cycleOfWord_of_reset hs hr (encode i)

/-! ### The fatal core -/

/-- The fatal core has no strobe: it is idle, and only an event's states have one (`10_state.md` R47). -/
theorem Inv.evStb_false_of_fatal {s : State} (h : Inv s) (hfatal : s.fatal = true) : s.evStb = false := by
  obtain ⟨hf, -⟩ := h.fatalIdle hfatal
  exact h.evStb_false (by simp [hf]) (by simp [hf])

/-- A cycle between two states of the fatal core adds nothing to the traces. -/
theorem cycleTraces_of_fatal {s t : State} (hs : Inv s) (ht : Inv t) (hsf : s.fatal = true)
    (htf : t.fatal = true) : cycleTraces s t = .none := by
  obtain ⟨hf, -⟩ := hs.fatalIdle hsf
  simp [cycleTraces, outputs, inReady, unkSetNow, Traces.none, hf, hsf, hs.evStb_false_of_fatal hsf,
    ht.evStb_false_of_fatal htf]

/-- Without reset the fatal core steps to the fatal core, whatever else the host drives, and the cycle
adds nothing to the traces (`60_exceptions.md` R283). -/
theorem Inv.step_of_fatal {s : State} (h : Inv s) (hfatal : s.fatal = true) (hr : s.pins.rst = false) :
    ∃ t, step s = .next t ∧ Inv t ∧ t.fatal = true ∧ cycleTraces s t = .none := by
  obtain ⟨t, hst⟩ := stepIsTotalUnderTheInvariants s h
  have ht : Inv t := stepKeepsTheInvariants s t h hst
  have htf : t.fatal = true := (clock_keeps_fatal ((step_eq_cycle s).symm.trans hst) hr).trans hfatal
  exact ⟨t, hst, ht, htf, cycleTraces_of_fatal h ht hfatal htf⟩

/-- A run of the fatal core without reset ends in the fatal core, with empty traces. -/
theorem Inv.runTraces_of_fatal {n : Nat} {s : State} (h : Inv s) (hfatal : s.fatal = true)
    (hk : ∀ k, k < n → (s.pinsAt k).rst = false) :
    ∃ t, runTraces n s = some (t, .none) ∧ Inv t ∧ t.fatal = true := by
  induction n generalizing s with
  | zero => exact ⟨s, rfl, h, hfatal⟩
  | succ n ih =>
    obtain ⟨v, hst, hv, hvf, hnow⟩ := h.step_of_fatal hfatal (pinsAt_zero s ▸ hk 0 (Nat.zero_lt_succ n))
    obtain ⟨t, hrun, ht, htf⟩ := ih hv hvf
      (fun k hlt => by rw [pinsAt_of_step hst]; exact hk (k + 1) (by omega))
    exact ⟨t, (runTraces_succ_iff n s t _).2 ⟨v, .none, hst, hrun, by rw [hnow, none_append]⟩, ht, htf⟩

/-- Settles O50: the run ends in the fatal core, which the invariants keep idle and empty. -/
theorem fatalCoreNeverWorks : Obligations.FatalCoreNeverWorks := by
  intro n s h hfatal hk
  obtain ⟨t, hrun, ht, htf⟩ := h.runTraces_of_fatal hfatal hk
  obtain ⟨hf, hv⟩ := ht.fatalIdle htf
  exact ⟨t, hrun, hf, hv, htf, by simp [inReady, htf], by simp [keyOut, hf]⟩

end Sys2Proof.Machine
end
